-- ==== Sys2Proof/Word.lean ====
section
/-! DEFINITION. The word types of the block and the nine-byte frame (00_scope.md R9, R10). -/

namespace Sys2Proof

/-- A byte, 8 bits (R9). -/
abbrev Byte := BitVec 8

/-- A 32-bit word: the value field and the timeout (R8, R9). -/
abbrev Word32 := BitVec 32

/-- A frame: nine bytes, `b0` the first written to or read from the line (R10, R60). -/
structure Frame where
  /-- offset 0: device address -/
  b0 : Byte
  /-- offset 1: command number, or module in a response -/
  b1 : Byte
  /-- offset 2: type, or status in a response -/
  b2 : Byte
  /-- offset 3: motor sub-field or coordinate, or command number echo in a response -/
  b3 : Byte
  /-- offset 4: value, most significant byte -/
  b4 : Byte
  /-- offset 5 -/
  b5 : Byte
  /-- offset 6 -/
  b6 : Byte
  /-- offset 7: value, least significant byte -/
  b7 : Byte
  /-- offset 8: checksum -/
  b8 : Byte
deriving DecidableEq, Repr, Inhabited

end Sys2Proof
end

