-- ==== Sys2Proof/Syntax.lean ====
section
/-! DEFINITION. The instructions: one constructor per row of spec/opcode_table.json. Three encodings
(30_encoding.md, opening): operation words (R110), command frames (R90), response frames (R91). -/

namespace Sys2Proof

/-- The 17 command kinds in the order of R100. -/
inductive Kind where
  | mst | ror | rol | mvp | gapos | sapos | gmres | smres | smaxc | sstbc | spdd | sintp
  | spdiv | srdiv | smaxa | giov | giot
deriving DecidableEq, Repr

/-- The variable fields of a command frame whose template is fixed by its row (R90). -/
structure CmdFields where
  /-- offset 0 -/
  address : Byte
  /-- offsets 4 to 7 -/
  value : Word32
  /-- offset 8 -/
  checksum : Byte
deriving DecidableEq, Repr

/-- The variable fields of a response frame whose status is fixed by its row (R91). -/
structure RspFields where
  /-- offset 0 -/
  address : Byte
  /-- offset 1, the byte R91 calls `module` -/
  moduleByte : Byte
  /-- offset 3, command number echo -/
  command : Byte
  /-- offsets 4 to 7 -/
  value : Word32
  /-- offset 8 -/
  checksum : Byte
deriving DecidableEq, Repr

/-- The port an instruction's bits belong to: the 8-bit operation word (R110), the 72-bit command
frame on the transmit side (R90), the 72-bit response frame on the receive side (R91). -/
inductive Port where
  | op | cmd | rsp
deriving DecidableEq, Repr

/-- One constructor per row of spec/opcode_table.json. An argument `low` is the five bits the row
calls ignored. -/
inductive Instr where
  -- operation words (R110)
  | cfgaddr (low : BitVec 5)
  | encode (low : BitVec 5)
  | decode (low : BitVec 5)
  | build (kind : BitVec 5)
  | execute (low : BitVec 5)
  | sendMst | sendRor | sendRol | sendMvp | sendGapos | sendSapos | sendGmres | sendSmres
  | sendSmaxc | sendSstbc | sendSpdd | sendSintp | sendSpdiv | sendSrdiv | sendSmaxa
  | sendGiov | sendGiot
  | sendReserved17
  | sendReserved18to19 (low : BitVec 1)
  | sendReserved20to23 (low : BitVec 2)
  | sendReserved24to31 (low : BitVec 3)
  | reserved6 (low : BitVec 5)
  | reserved7 (low : BitVec 5)
  -- command frames (R90, R101 to R103)
  | cmdMst (x : CmdFields)
  | cmdRor (x : CmdFields)
  | cmdRol (x : CmdFields)
  | cmdMvpAbs (x : CmdFields)
  | cmdMvpRel (x : CmdFields)
  | cmdMvpCoord (coord : Byte) (x : CmdFields)
  | cmdGapos (x : CmdFields)
  | cmdSapos (x : CmdFields)
  | cmdGmres (x : CmdFields)
  | cmdSmres (x : CmdFields)
  | cmdSmaxc (x : CmdFields)
  | cmdSstbc (x : CmdFields)
  | cmdSpdd (x : CmdFields)
  | cmdSintp (x : CmdFields)
  | cmdSpdiv (x : CmdFields)
  | cmdSrdiv (x : CmdFields)
  | cmdSmaxa (x : CmdFields)
  | cmdGiov (x : CmdFields)
  | cmdGiot (x : CmdFields)
  -- response frames (R91, R104)
  | rspWrongChecksum (x : RspFields)
  | rspInvalidCommand (x : RspFields)
  | rspWrongType (x : RspFields)
  | rspInvalidValue (x : RspFields)
  | rspConfigurationEEPROMLocked (x : RspFields)
  | rspCommandNotAvailable (x : RspFields)
  | rspSuccess (x : RspFields)
  | rspCommandLoadedIntoEEPROM (x : RspFields)
deriving DecidableEq, Repr

end Sys2Proof
end

