-- ==== Sys2Proof/Machine/Frame.lean ====
section
/-! DEFINITION. The frame codec as pure functions (40_codec.md) and the access to a frame's bytes
(20_memory.md R60 to R62, R65). -/

namespace Sys2Proof

/-- The byte at an offset; none outside 0 to 8, which no frame has (R60). -/
def Frame.byteAt (f : Frame) : Nat → Option Byte
  | 0 => some f.b0
  | 1 => some f.b1
  | 2 => some f.b2
  | 3 => some f.b3
  | 4 => some f.b4
  | 5 => some f.b5
  | 6 => some f.b6
  | 7 => some f.b7
  | 8 => some f.b8
  | _ => none

/-- `f` with the byte at one offset replaced; unchanged for an offset no frame has. -/
def Frame.setByte (f : Frame) (off : Nat) (b : Byte) : Frame :=
  match off with
  | 0 => { f with b0 := b }
  | 1 => { f with b1 := b }
  | 2 => { f with b2 := b }
  | 3 => { f with b3 := b }
  | 4 => { f with b4 := b }
  | 5 => { f with b5 := b }
  | 6 => { f with b6 := b }
  | 7 => { f with b7 := b }
  | 8 => { f with b8 := b }
  | _ => f

/-- The bytes in offset order, the order on the line (R10, R61). -/
def Frame.toList (f : Frame) : List Byte :=
  [f.b0, f.b1, f.b2, f.b3, f.b4, f.b5, f.b6, f.b7, f.b8]

/-- `chk`: the sum of offsets 0 to 7 modulo 256; every carry is dropped (R140). -/
def Frame.chk (f : Frame) : Byte :=
  f.b0 + f.b1 + f.b2 + f.b3 + f.b4 + f.b5 + f.b6 + f.b7

/-- Checksum agreement: byte 8 equals the recomputed checksum (R144). -/
def Frame.valid (f : Frame) : Bool := f.b8 == f.chk

/-- `MemRead(S:4, 4)`: the big-endian value at offsets 4 to 7 (R61). -/
def Frame.value (f : Frame) : Word32 := f.b4 ++ f.b5 ++ f.b6 ++ f.b7

/-- `MemWrite(S:4, 4, v)` (R61). -/
def Frame.setValue (f : Frame) (v : Word32) : Frame :=
  { f with b4 := v.extractLsb' 24 8, b5 := v.extractLsb' 16 8,
           b6 := v.extractLsb' 8 8, b7 := v.extractLsb' 0 8 }

/-- `MemRead(S:off, n)`: `n` is 1 at offsets 0 to 8, or 4 at offset 4, the only offset at which that
width is accessed (R11, R61, R63, R65). The result is zero-extended to 32 bits. -/
def Frame.memRead (f : Frame) (off n : Nat) : Option Word32 :=
  if n = 1 then (f.byteAt off).map (·.setWidth 32)
  else if n = 4 ∧ off = 4 then some f.value
  else none

/-- `MemWrite(S:off, n, v)` for the accesses of `Frame.memRead`; none for any other. -/
def Frame.memWrite (f : Frame) (off n : Nat) (v : Word32) : Option Frame :=
  if n = 1 ∧ off ≤ 8 then some (f.setByte off (v.setWidth 8))
  else if n = 4 ∧ off = 4 then some (f.setValue v)
  else none

/-- The frame ENCODE makes from five fields (R142). -/
def encodeFrame (address command type motor : Byte) (value : Word32) : Frame :=
  let p : Frame := Frame.setValue ⟨address, command, type, motor, 0, 0, 0, 0, 0⟩ value
  { p with b8 := p.chk }

/-- The frame as the 72-bit word `W`, offset 0 at bits 71:64 (R10). -/
def Frame.word (f : Frame) : BitVec 72 :=
  f.b0 ++ f.b1 ++ f.b2 ++ f.b3 ++ f.b4 ++ f.b5 ++ f.b6 ++ f.b7 ++ f.b8

/-- The frame of a 72-bit word: `F[k] = W[71-8k : 64-8k]` (R10). -/
def Frame.ofWord (w : BitVec 72) : Frame :=
  ⟨w.extractLsb' 64 8, w.extractLsb' 56 8, w.extractLsb' 48 8, w.extractLsb' 40 8,
   w.extractLsb' 32 8, w.extractLsb' 24 8, w.extractLsb' 16 8, w.extractLsb' 8 8,
   w.extractLsb' 0 8⟩

/-- `s32`: the signed reading of a word (R9). -/
def s32 (w : Word32) : Int := w.toInt

/-- `u32`: an integer modulo 2^32 as a word (R9). -/
def u32 (i : Int) : Word32 := BitVec.ofInt 32 i

end Sys2Proof
end

