-- ==== Sys2Proof/Machine/Inputs.lean ====
section
/-! DEFINITION. What reaches one block from outside (41_exchange.md R160, R162, R163, R180;
60_exceptions.md R310): plain data the step reads. -/

namespace Sys2Proof.Machine

/-- What the host presents to be started (R160). -/
inductive Start where
  /-- `op_valid = 1`: the operation word is `A_OP ++ A_KIND` (R110, R180). -/
  | op
  /-- EXECUTE of this frame at the level of whole operations, all nine bytes written in one step
  (R161). DESIGN CHOICE (log 10). -/
  | frame (f : Frame)
deriving DecidableEq, Repr, Inhabited

/-- A host write to one operand register (R22, R23). -/
inductive HostWrite where
  | op (v : BitVec 3)
  | kind (v : BitVec 5)
  | addr (v : BitVec 16)
  | cmd (v : Byte)
  | type (v : Byte)
  | motor (v : Byte)
  | value (v : Word32)
  | timeout (v : Word32)
  | mvt (v : Byte)
  | coord (v : Byte)
  | frame (f : Frame)
deriving DecidableEq, Repr, Inhabited

/-- The input ports of R180 as sampled at one rising clock edge. The operand ports are the operand
registers and change by `HostWrite`. -/
structure Pins where
  /-- `rst` -/
  rst : Bool
  /-- `op_valid` -/
  opValid : Bool
  /-- `tx_ready` -/
  txReady : Bool
  /-- `rx_valid` with `rx_data` -/
  rxData : Option Byte
  /-- `link_up` -/
  linkUp : Bool
  /-- `link_err` -/
  linkErr : Bool
  /-- `tick_ms` -/
  tickMs : Bool
deriving DecidableEq, Repr, Inhabited

/-- One event of an agent of R162, or of reset (R340). -/
inductive Input where
  /-- the host presents a start; it stays pending until accepted (R160) -/
  | present (st : Start)
  /-- the host takes a start back before it is accepted: `op_valid` falls (R180, DESIGN CHOICE,
  log 28) -/
  | withdraw
  /-- the host writes an operand register (R162: always enabled) -/
  | write (w : HostWrite)
  /-- the link takes a byte, `tx_ready = 1` (R166, R167) -/
  | linkTakes
  /-- a byte arrives on RXS (R168, R172, R173) -/
  | rxByte (b : Byte)
  /-- the link receive agent takes the head of RXQ, which counts as arriving (R168) -/
  | rxTake
  /-- nine bytes arrive on RXS with nothing between them: the draw of R161 (DESIGN CHOICE, log 11) -/
  | rxFrame (f : Frame)
  /-- one millisecond (R169) -/
  | tick
  /-- the serial layer reports an I/O failure (R171) -/
  | linkErr
  /-- `link_up` becomes 1 (R346) -/
  | linkOpen
  /-- `link_up` becomes 0 (R171, R346) -/
  | linkClose
  /-- `rst` for one clock edge (R340, R341) -/
  | rst
  /-- several at one clock edge, handled in the hardware's order (R174) -/
  | edge (p : Pins)
deriving DecidableEq, Repr, Inhabited

end Sys2Proof.Machine
end

