-- ==== Sys2Proof/Config.lean ====
section
/-! DEFINITION. What an implementation fixes and the free values: opaque constants, so no proof can
see what they are (00_scope.md R8, 92_eei_decisions.md "Open parameters", 93_implementation_defined.md). -/

namespace Sys2Proof

/-- RX_STALE_POLICY: what happens to a byte that arrives outside the read phase (R8, R173, D9). -/
inductive RxPolicy where
  | discard | queue
deriving DecidableEq, Repr, Inhabited

/-- OPEN parameter RX_STALE_POLICY (D9, DESIGN CHOICE, log 6). -/
opaque Config.rxStalePolicy : RxPolicy

/-- Whether RXQ has room when it holds that many bytes (R180 `rx_ready`); no capacity is given
(DESIGN CHOICE, log 7). -/
opaque Config.rxqRoom : Nat → Bool

/-- The OPEN part of ERROR_CODE (R8, R105, D13, DESIGN CHOICE, log 5). -/
opaque Config.errorOffset : Fin 64535

/-- ERROR_CODE: any number with `1000 < ERROR_CODE < 65536` (R8). -/
def Config.errorCode : BitVec 16 := BitVec.ofNat 16 (1001 + Config.errorOffset.val)

/-- The unspecified content of RXBUF after a failed exchange (R26, U6, DESIGN CHOICE, log 8), by
instance and by count (DESIGN CHOICE, log 9). -/
opaque Config.freeFrame : Nat → Nat → Frame

/-- The oracle of R163: the event that comes when no input is waiting, by instance and by count
(DESIGN CHOICE, log 9). Instances have separate transports (R72, R318), so nothing ties the draws of
two of them. -/
opaque Config.oracle : Nat → Nat → Machine.Input

/-- The OPEN part of MOTOR_COUNT_MAX (R8, R232, D36, DESIGN CHOICE, log 23). -/
opaque Config.extraMotors : Nat

/-- MOTOR_COUNT_MAX: "a small fixed maximum", at least 1. -/
def Config.motorCountMax : Nat := 1 + Config.extraMotors

end Sys2Proof
end

