-- ==== Sys2Proof/Machine/Templates.lean ====
section
/-! DEFINITION. The template table TPL and the movement-type bytes (10_state.md R36, 30_encoding.md
R100 to R103). The numbers are OPEN; the default table is the spec's own default, marked there as
general knowledge. -/

namespace Sys2Proof

/-- One entry of TPL: command number, type, motor sub-field (R36). -/
structure Template where
  /-- command number -/
  cmd : Byte
  /-- type -/
  typ : Byte
  /-- motor sub-field -/
  mot : Byte
deriving DecidableEq, Repr

/-- TPL, one entry per kind, with the three movement-type bytes (R36, R101, R102). The type byte of
`mvp` is never read: R102 gives the type byte of a move. -/
structure TemplateTable where
  /-- kind 0 -/
  mst : Template
  /-- kind 1 -/
  ror : Template
  /-- kind 2 -/
  rol : Template
  /-- kind 3 -/
  mvp : Template
  /-- kind 4 -/
  gapos : Template
  /-- kind 5 -/
  sapos : Template
  /-- kind 6 -/
  gmres : Template
  /-- kind 7 -/
  smres : Template
  /-- kind 8 -/
  smaxc : Template
  /-- kind 9 -/
  sstbc : Template
  /-- kind 10 -/
  spdd : Template
  /-- kind 11 -/
  sintp : Template
  /-- kind 12 -/
  spdiv : Template
  /-- kind 13 -/
  srdiv : Template
  /-- kind 14 -/
  smaxa : Template
  /-- kind 15 -/
  giov : Template
  /-- kind 16 -/
  giot : Template
  /-- MVT_ABS -/
  mvtAbs : Byte
  /-- MVT_REL -/
  mvtRel : Byte
  /-- MVT_COORD -/
  mvtCoord : Byte
deriving DecidableEq, Repr

/-- `TPL(kind)` (R36). -/
def TemplateTable.entry (t : TemplateTable) : Kind → Template
  | .mst => t.mst
  | .ror => t.ror
  | .rol => t.rol
  | .mvp => t.mvp
  | .gapos => t.gapos
  | .sapos => t.sapos
  | .gmres => t.gmres
  | .smres => t.smres
  | .smaxc => t.smaxc
  | .sstbc => t.sstbc
  | .spdd => t.spdd
  | .sintp => t.sintp
  | .spdiv => t.spdiv
  | .srdiv => t.srdiv
  | .smaxa => t.smaxa
  | .giov => t.giov
  | .giot => t.giot

/-- The 19 triples R101 asks to be pairwise distinct: 16 kinds, and `mvp` with each of its three
type bytes. -/
def TemplateTable.triples (t : TemplateTable) : List Template :=
  [t.mst, t.ror, t.rol, { t.mvp with typ := t.mvtAbs }, { t.mvp with typ := t.mvtRel },
   { t.mvp with typ := t.mvtCoord }, t.gapos, t.sapos, t.gmres, t.smres] ++
  [t.smaxc, t.sstbc, t.spdd, t.sintp, t.spdiv, t.srdiv, t.smaxa, t.giov, t.giot]

/-- The source's constraint on TPL and MVT_* (R36, R101, R102): pairwise distinct. -/
def TemplateTable.distinct (t : TemplateTable) : Bool := decide t.triples.Nodup

/-- The default table of R101 and R102. PRESUMED (logs 3, 4): the spec marks every number as general
knowledge of the TMCL family, not in its source. -/
def TemplateTable.default : TemplateTable where
  mst := ⟨3, 0, 0⟩
  ror := ⟨1, 0, 0⟩
  rol := ⟨2, 0, 0⟩
  mvp := ⟨4, 0, 0⟩
  gapos := ⟨6, 1, 0⟩
  sapos := ⟨5, 1, 0⟩
  gmres := ⟨6, 140, 0⟩
  smres := ⟨5, 140, 0⟩
  smaxc := ⟨5, 6, 0⟩
  sstbc := ⟨5, 7, 0⟩
  spdd := ⟨5, 214, 0⟩
  sintp := ⟨5, 160, 0⟩
  spdiv := ⟨5, 154, 0⟩
  srdiv := ⟨5, 153, 0⟩
  smaxa := ⟨5, 5, 0⟩
  giov := ⟨15, 8, 1⟩
  giot := ⟨15, 9, 1⟩
  mvtAbs := 0
  mvtRel := 1
  mvtCoord := 2

end Sys2Proof
end

