-- ==== Sys2Proof/Machine/State.lean ====
section
/-! DEFINITION. The state of one VCF instance (10_state.md R20) with what waits at its ports
(41_exchange.md R160, R163), the reasons to stop, and the state after reset. -/

namespace Sys2Proof.Machine

/-- PHASE (R27). -/
inductive Phase where
  | idle | tx | rx
deriving DecidableEq, Repr

/-- R_CLASS (R31). -/
inductive ResultClass where
  | wire | error | locl | none
deriving DecidableEq, Repr

/-- Why the machine stops with a fault. -/
inductive Fault where
  /-- The engine is asked to move a byte while IDX is above 8: no frame has that offset (R27, R60).
  Raised by the transmit and receive events of Machine/Fetch.lean and by the response frames of
  Machine/Exchange.lean. Safe: it stops, and no state that a run reaches has such an IDX. -/
  | offsetOutOfFrame
deriving DecidableEq, Repr

/-- Why an instruction is refused. -/
inductive Refusal where
  /-- An arm of exec without a meaning; no arm of this model is one. Safe. -/
  | notModelled (mnemonic : String)
  /-- A start while BUSY = 1 is not accepted; a model gives it no step (R160, D10, U1). Raised by
  every meaning that starts an operation; the step never asks for one, it leaves the start pending.
  Safe. -/
  | busy
  /-- The host's motion layer computes a position outside 32 bits signed (U12). Raised by
  Machine/System.lean only, by no instruction. Safe. -/
  | positionOverflow
deriving DecidableEq, Repr

/-- One VCF instance and its ports. Field names are the spec's register names (R20). -/
structure State where
  /-- DEVADDR (R21) -/
  devaddr : Byte
  /-- CFG (R21) -/
  cfg : Bool
  /-- A_OP (R23) -/
  aOp : BitVec 3
  /-- A_KIND (R23) -/
  aKind : BitVec 5
  /-- A_ADDR (R23) -/
  aAddr : BitVec 16
  /-- A_CMD (R23) -/
  aCmd : Byte
  /-- A_TYPE (R23) -/
  aType : Byte
  /-- A_MOTOR (R23) -/
  aMotor : Byte
  /-- A_VALUE (R23) -/
  aValue : Word32
  /-- A_TIMEOUT (R22, R23) -/
  aTimeout : Word32
  /-- A_MVT (R23) -/
  aMvt : Byte
  /-- A_COORD (R23) -/
  aCoord : Byte
  /-- A_FRAME (R23) -/
  aFrame : Frame
  /-- L_OP (R24) -/
  lOp : BitVec 3
  /-- L_KIND (R24) -/
  lKind : BitVec 5
  /-- L_LIMIT (R24) -/
  lLimit : Word32
  /-- TXBUF, frame space T (R25, R60) -/
  txbuf : Frame
  /-- RXBUF, frame space R (R26, R60) -/
  rxbuf : Frame
  /-- PHASE (R27) -/
  phase : Phase
  /-- IDX (R27) -/
  idx : BitVec 4
  /-- TIMER (R28) -/
  timer : Word32
  /-- DONE (R30) -/
  done : Bool
  /-- R_CLASS (R31) -/
  rClass : ResultClass
  /-- R_CODE (R31) -/
  rCode : BitVec 16
  /-- R_ARG (R31) -/
  rArg : BitVec 4
  /-- R_FRAME (R32) -/
  rFrame : Frame
  /-- R_VALUE (R33) -/
  rValue : Word32
  /-- R_HASVALUE (R33) -/
  rHasvalue : Bool
  /-- D_ADDRESS (R34) -/
  dAddress : Byte
  /-- D_MODULE (R34) -/
  dModule : Byte
  /-- D_STATUS (R34) -/
  dStatus : Byte
  /-- D_CMD (R34) -/
  dCmd : Byte
  /-- D_VALUE (R34) -/
  dValue : Word32
  /-- D_VALID (R34) -/
  dValid : Bool
  /-- TPL with the movement-type bytes: constant (R36, R101, R102) -/
  tpl : TemplateTable
  /-- TXS: the bytes put since reset (R38) -/
  txs : List Byte
  /-- RXS: the bytes taken since reset (R39) -/
  rxs : List Byte
  /-- RXQ: stale bytes in arrival order (R41) -/
  rxq : List Byte
  /-- the input port `link_up` (R180, R346) -/
  linkUp : Bool
  /-- the start the host presents and holds (R160) -/
  pend : Option Start
  /-- the model's own: events waiting at the ports, next first (R162, R163, DESIGN CHOICE, log 9) -/
  inputs : List Input
  /-- the model's own: which free value is next (DESIGN CHOICE, log 9) -/
  fresh : Nat
  /-- the model's own: which instance of a system this is; it selects this instance's free values
  (DESIGN CHOICE, log 9) -/
  inst : Nat
deriving DecidableEq, Repr

/-- BUSY: 1 iff PHASE is TX or RX (R29). -/
def State.busy (s : State) : Bool := decide (s.phase ≠ .idle)

/-- The nine zero bytes a frame register holds at reset. DESIGN CHOICE (log 2). -/
def Frame.zero : Frame := ⟨0, 0, 0, 0, 0, 0, 0, 0, 0⟩

/-- The state after reset (R20's reset column, R340). A register R20 gives "no value" holds zero:
DESIGN CHOICE (log 2). TPL is the spec's default table: PRESUMED (logs 3, 4). The link is not open and
nothing waits at the ports: DESIGN CHOICE (log 20). -/
def State.reset : State where
  devaddr := 0
  cfg := false
  aOp := 0
  aKind := 0
  aAddr := 0
  aCmd := 0
  aType := 0
  aMotor := 0
  aValue := 0
  aTimeout := 0
  aMvt := 0
  aCoord := 0
  aFrame := Frame.zero
  lOp := 0
  lKind := 0
  lLimit := 0
  txbuf := Frame.zero
  rxbuf := Frame.zero
  phase := .idle
  idx := 0
  timer := 0
  done := false
  rClass := .wire
  rCode := 0
  rArg := 0
  rFrame := Frame.zero
  rValue := 0
  rHasvalue := false
  dAddress := 0
  dModule := 0
  dStatus := 0
  dCmd := 0
  dValue := 0
  dValid := false
  tpl := TemplateTable.default
  txs := []
  rxs := []
  rxq := []
  linkUp := false
  pend := none
  inputs := []
  fresh := 0
  inst := 0

end Sys2Proof.Machine
end

