-- ==== Sys2Proof/Machine/Operands.lean ====
section
/-! DEFINITION. Operand forms: kinds, templates, the move adjustment, validation, the frame BUILD
makes (42_client.md R202 to R204), and the reading of a returned value (30_encoding.md R93). -/

namespace Sys2Proof

/-- KIND code to kind: a closed set of 17, codes 17 to 31 are none (R100, R107). -/
def Kind.ofCode (k : BitVec 5) : Option Kind :=
  match k.toNat with
  | 0 => some .mst
  | 1 => some .ror
  | 2 => some .rol
  | 3 => some .mvp
  | 4 => some .gapos
  | 5 => some .sapos
  | 6 => some .gmres
  | 7 => some .smres
  | 8 => some .smaxc
  | 9 => some .sstbc
  | 10 => some .spdd
  | 11 => some .sintp
  | 12 => some .spdiv
  | 13 => some .srdiv
  | 14 => some .smaxa
  | 15 => some .giov
  | 16 => some .giot
  | _ => none

/-- Kind to KIND code (R100). -/
def Kind.code : Kind → BitVec 5
  | .mst => 0
  | .ror => 1
  | .rol => 2
  | .mvp => 3
  | .gapos => 4
  | .sapos => 5
  | .gmres => 6
  | .smres => 7
  | .smaxc => 8
  | .sstbc => 9
  | .spdd => 10
  | .sintp => 11
  | .spdiv => 12
  | .srdiv => 13
  | .smaxa => 14
  | .giov => 15
  | .giot => 16

/-- The get kinds: the only ones that return a value (R100, R214). -/
def Kind.isGet : Kind → Bool
  | .gapos | .gmres | .giov | .giot => true
  | .mst | .ror | .rol | .mvp | .sapos | .smres | .smaxc | .sstbc | .spdd | .sintp | .spdiv
  | .srdiv | .smaxa => false

/-- A get kind by its latched code. -/
def isGetCode (k : BitVec 5) : Bool :=
  match Kind.ofCode k with
  | some kind => kind.isGet
  | none => false

/-- The argument a local validation error names (R303). -/
inductive LocalArg where
  | velocity | resolution | address | motorIndex | movementType | addrNotSet | addrAlreadySet
  | kind | op | angle
deriving DecidableEq, Repr

/-- The cause of an `Error`, for diagnosis (R305). -/
inductive Cause where
  | timeout | linkError | linkDown
deriving DecidableEq, Repr

namespace Machine

/-- VEL_MIN (R8). -/
def velMin : Int := -2049

/-- VEL_MAX (R8). -/
def velMax : Int := 2049

/-- RES_MIN (R8). -/
def resMin : Int := 1

/-- RES_MAX (R8). -/
def resMax : Int := 8

/-- VALIDATE(k, v): the argument that is out of range, if one is (R204). -/
def validate (k : Kind) (v : Word32) : Option LocalArg :=
  match k with
  | .ror | .rol => if velMin ≤ s32 v ∧ s32 v ≤ velMax then none else some .velocity
  | .smres => if resMin ≤ s32 v ∧ s32 v ≤ resMax then none else some .resolution
  | .mst | .mvp | .gapos | .sapos | .gmres | .smaxc | .sstbc | .spdd | .sintp | .spdiv | .srdiv
  | .smaxa | .giov | .giot => none

/-- The MVP adjustment: movement-type byte and offset 3 (R103, R203). -/
def moveAdjust (t : TemplateTable) (mvt coord : Byte) : Except LocalArg (Byte × Byte) :=
  match mvt.toNat with
  | 0 => .ok (t.mvtAbs, 0)
  | 1 => .ok (t.mvtRel, 0)
  | 2 => .ok (t.mvtCoord, coord)
  | _ => .error .movementType

/-- The command frame BUILD makes for a kind (R202, R203); it validates no value. -/
def buildFrame (t : TemplateTable) (address : Byte) (k : Kind) (mvt coord : Byte) (v : Word32) :
    Except LocalArg Frame :=
  let e := t.entry k
  match k with
  | .mvp =>
    match moveAdjust t mvt coord with
    | .ok (typ, mot) => .ok (encodeFrame address e.cmd typ mot v)
    | .error a => .error a
  | .mst | .ror | .rol | .gapos | .sapos | .gmres | .smres | .smaxc | .sstbc | .spdd | .sintp
  | .spdiv | .srdiv | .smaxa | .giov | .giot => .ok (encodeFrame address e.cmd e.typ e.mot v)

/-- How a host reads the word of a get kind (R93). -/
inductive Reading where
  /-- signed, get-actual-position -/
  | signed (i : Int)
  /-- unsigned -/
  | unsigned (n : Nat)
  /-- the resolution setting of that number, 1 to 8 -/
  | resolution (n : Nat)
deriving DecidableEq, Repr

/-- The reading of a value word, for get kinds (R93, D17, D29, DEDUCED, log 26). -/
def reading (k : Kind) (w : Word32) : Option Reading :=
  match k with
  | .gapos => some (.signed (s32 w))
  | .gmres =>
    some (if resMin ≤ (w.toNat : Int) ∧ (w.toNat : Int) ≤ resMax then .resolution w.toNat
      else .unsigned w.toNat)
  | .giov | .giot => some (.unsigned w.toNat)
  | .mst | .ror | .rol | .mvp | .sapos | .smres | .smaxc | .sstbc | .spdd | .sintp | .spdiv
  | .srdiv | .smaxa => none

end Machine

end Sys2Proof
end

