-- ==== Sys2Proof/Machine/Flags.lean ====
section
/-! DEFINITION. The codes of the flag and result registers (10_state.md R22, R27, R31;
60_exceptions.md R300, R303, R305), their packings STATUSREG and RESULT, and the names of the status
bytes (30_encoding.md R104). -/

namespace Sys2Proof.Machine

/-- The two bits of PHASE; 3 is never held (R22, R27). -/
def phaseCode : Phase → BitVec 2
  | .idle => 0
  | .tx => 1
  | .rx => 2

/-- The two bits of R_CLASS (R31). -/
def classCode : ResultClass → BitVec 2
  | .wire => 0
  | .error => 1
  | .locl => 2
  | .none => 3

/-- R_ARG of a local validation error (R303). -/
def localArgId : LocalArg → BitVec 4
  | .velocity => 1
  | .resolution => 2
  | .address => 3
  | .motorIndex => 4
  | .movementType => 5
  | .addrNotSet => 6
  | .addrAlreadySet => 7
  | .kind => 8
  | .op => 9
  | .angle => 10

/-- R_ARG of a transport failure (R305). -/
def causeId : Cause → BitVec 4
  | .timeout => 1
  | .linkError => 2
  | .linkDown => 3

/-- R_ARG of a checksum mismatch (R305). -/
def checksumId : BitVec 4 := 4

/-- How an operation ends (R300). `wire` carries the value of a get kind (R33, R214). -/
inductive Ending where
  | none
  | wire (status : Byte) (value : Option Word32)
  | locl (arg : LocalArg)
  | transport (cause : Cause)
  | checksum
deriving DecidableEq, Repr

/-- A Bool as a bit. -/
def bit (b : Bool) : BitVec 1 := if b then 1 else 0

/-- STATUSREG: IDX 8:5, PHASE 4:3, CFG 2, DONE 1, BUSY 0 (R22). -/
def State.statusreg (s : State) : BitVec 9 :=
  ((((s.idx ++ phaseCode s.phase : BitVec 6) ++ bit s.cfg : BitVec 7) ++ bit s.done : BitVec 8) ++
    bit s.busy : BitVec 9)

/-- RESULT: R_HASVALUE 22, R_ARG 21:18, R_CODE 17:2, R_CLASS 1:0 (R22). -/
def State.result (s : State) : BitVec 23 :=
  (((bit s.rHasvalue ++ s.rArg : BitVec 5) ++ s.rCode : BitVec 21) ++ classCode s.rClass : BitVec 23)

/-- What the host reads off the result registers once DONE is 1 (R211, R300). -/
inductive Report where
  /-- no status -/
  | none
  /-- the device's status byte, verbatim; 100 is Success -/
  | wire (status : Byte)
  /-- local validation, the argument id -/
  | locl (arg : BitVec 4)
  /-- the synthetic status `Error`, with the diagnostic cause -/
  | error (cause : BitVec 4)
deriving DecidableEq, Repr

/-- The report in the result registers (R31, R211). -/
def State.report (s : State) : Report :=
  match s.rClass with
  | .wire => .wire (s.rCode.setWidth 8)
  | .error => .error s.rArg
  | .locl => .locl s.rArg
  | .none => .none

/-- The eight named status codes (R104). -/
inductive StatusName where
  | wrongChecksum | invalidCommand | wrongType | invalidValue | configurationEEPROMLocked
  | commandNotAvailable | success | commandLoadedIntoEEPROM
deriving DecidableEq, Repr

/-- The name of a status byte; 248 bytes have none (R104, R106). -/
def statusName (b : Byte) : Option StatusName :=
  match b.toNat with
  | 1 => some .wrongChecksum
  | 2 => some .invalidCommand
  | 3 => some .wrongType
  | 4 => some .invalidValue
  | 5 => some .configurationEEPROMLocked
  | 6 => some .commandNotAvailable
  | 100 => some .success
  | 101 => some .commandLoadedIntoEEPROM
  | _ => none

/-- The source's four error classes and the two cases that are none (R300). -/
inductive ErrorClass where
  | noError | success | deviceError | localValidationError | transportError | checksumError
deriving DecidableEq, Repr

/-- The class of an ending (R300): a valid response with any status byte but 100 is a DeviceError. -/
def Ending.errorClass : Ending → ErrorClass
  | .none => .noError
  | .wire b _ => if b = 100 then .success else .deviceError
  | .locl _ => .localValidationError
  | .transport _ => .transportError
  | .checksum => .checksumError

end Sys2Proof.Machine
end

