-- ==== Sys2Proof/Machine/Ops.lean ====
section
/-! DEFINITION. The named operations the meanings are made of: the end of an operation (the block's
trap entry, 60_exceptions.md R311), its start (41_exchange.md R160), the steps of an exchange
(R165 to R173) and the decode step (42_client.md R210). -/

namespace Sys2Proof.Machine

/-- `pc <- (p, i)` (R11, R27). -/
def State.setPc (s : State) (p : Phase) (i : BitVec 4) : State := { s with phase := p, idx := i }

/-- One row of R311's table: R_CLASS, R_CODE, R_ARG, R_HASVALUE, the pc and DONE. -/
def setResult (c : ResultClass) (code : BitVec 16) (arg : BitVec 4) (hasvalue : Bool)
    (s : State) : State :=
  { s.setPc .idle 0 with
    done := true, rClass := c, rCode := code, rArg := arg, rHasvalue := hasvalue }

/-- The end of an operation: the result registers in one step (R311). There is no handler to go to
and nothing to return from (R313). R_VALUE without a value is left unchanged (DEDUCED, log 14). -/
def endOp (e : Ending) (s : State) : State :=
  match e with
  | .none => setResult .none 0 0 false s
  | .wire b (some v) => { setResult .wire (b.setWidth 16) 0 true s with rValue := v }
  | .wire b none => setResult .wire (b.setWidth 16) 0 false s
  | .locl a => setResult .locl 0 (localArgId a) false s
  | .transport c => setResult .error Config.errorCode (causeId c) false s
  | .checksum => setResult .error Config.errorCode checksumId false s

/-- Accepting a start: DONE falls and the operation's code is latched (R24, R160). -/
def latchOp (op : BitVec 3) (s : State) : State := { s with lOp := op, done := false }

/-- Accepting BUILD: the kind is latched too (R24). -/
def latchKind (op : BitVec 3) (kind : BitVec 5) (s : State) : State :=
  { latchOp op s with lKind := kind }

/-- Accepting EXECUTE: the timeout is latched too (R24, DEDUCED, log 13). -/
def latchLimit (op : BitVec 3) (s : State) : State := { latchOp op s with lLimit := s.aTimeout }

/-- Accepting SEND: kind and timeout (R24, DEDUCED, log 13). -/
def latchSend (kind : BitVec 5) (s : State) : State :=
  { latchKind 5 kind s with lLimit := s.aTimeout }

/-- A start is accepted only in IDLE; while BUSY a model gives it no step (R160, DEDUCED, log 12). -/
def whenIdle (s : State) (f : State → State) : Host.Outcome State Fault Refusal :=
  match s.phase with
  | .idle => .next (f s)
  | .tx => .refused .busy
  | .rx => .refused .busy

/-- The six outputs of DECODE on a frame (R143). -/
def writeDecode (f : Frame) (s : State) : State :=
  { s with dAddress := f.b0, dModule := f.b1, dStatus := f.b2, dCmd := f.b3, dValue := f.value,
           dValid := f.valid }

/-- Start of an exchange with command frame `c` and the timeout operand (R165): link first, then the
empty budget, then the buffer, the limit, the timer and the pc. -/
def startExchange (c : Frame) (s : State) : State :=
  if s.linkUp = false then endOp (.transport .linkDown) s
  else if s.aTimeout = 0 then endOp (.transport .timeout) s
  else { s.setPc .tx 0 with txbuf := c, lLimit := s.aTimeout, timer := 0 }

/-- `LinkPut(b)` (R11, R38). -/
def linkPut (b : Byte) (s : State) : State := { s with txs := s.txs ++ [b] }

/-- `LinkGet()`: this byte is taken from RXS (R11, R39). -/
def linkGet (b : Byte) (s : State) : State := { s with rxs := s.rxs ++ [b] }

/-- The transmit step when the link takes a byte (R166, R167); no step in another phase, and none
at an IDX that names no offset. -/
def txStep (s : State) : State :=
  match s.phase with
  | .tx =>
    match s.txbuf.byteAt s.idx.toNat with
    | some b => if s.idx = 8 then (linkPut b s).setPc .rx 0 else (linkPut b s).setPc .tx (s.idx + 1)
    | none => s
  | .idle => s
  | .rx => s

/-- Some transmit steps with nothing between them. -/
def txSteps : Nat → State → State
  | 0, s => s
  | n + 1, s => txSteps n (txStep s)

/-- Steps 3 and 4 of SEND on a completed read (R210): the response is decoded; a wrong checksum ends
as `Checksum` with no field surfaced, else the status byte verbatim, with the value for a get kind. -/
def finishSend (s : State) : State :=
  if s.rxbuf.valid then
    endOp (.wire s.rxbuf.b2 (if isGetCode s.lKind then some s.rxbuf.value else none))
      (writeDecode s.rxbuf { s with rFrame := s.rxbuf })
  else endOp .checksum (writeDecode s.rxbuf { s with rFrame := s.rxbuf })

/-- The end of EXECUTE on a completed read (R161, R172): the nine bytes as they are. -/
def finishExecute (s : State) : State := endOp .none { s with rFrame := s.rxbuf }

/-- Completion (R172): SEND decodes, EXECUTE does not (DEDUCED, log 30). -/
def complete (s : State) : State := if s.lOp = 5 then finishSend s else finishExecute s

/-- The receive step with byte `b` at hand (R168, R172). -/
def storeRx (b : Byte) (s : State) : State :=
  if s.idx = 8 then complete { s.setPc .idle 0 with rxbuf := s.rxbuf.setByte 8 b }
  else { s.setPc .rx (s.idx + 1) with rxbuf := s.rxbuf.setByte s.idx.toNat b }

/-- A byte that arrives while PHASE is not RX (R173); without room in RXQ it is not taken
(R180 `rx_ready`). -/
def staleByte (b : Byte) (s : State) : State :=
  match Config.rxStalePolicy with
  | .discard => linkGet b s
  | .queue =>
    if Config.rxqRoom s.rxq.length then { linkGet b s with rxq := s.rxq ++ [b] } else s

/-- A byte arrives on RXS (R168, R172, R173). In RX the head of RXQ counts as arriving first. -/
def rxByte (b : Byte) (s : State) : State :=
  match s.phase with
  | .rx =>
    match s.rxq with
    | [] => storeRx b (linkGet b s)
    | h :: t => storeRx h { linkGet b s with rxq := t ++ [b] }
  | .idle => staleByte b s
  | .tx => staleByte b s

/-- The receive step that takes the head of RXQ with no new arrival (R168). -/
def rxTake (s : State) : State :=
  match s.phase, s.rxq with
  | .rx, h :: t => storeRx h { s with rxq := t }
  | _, _ => s

/-- Bytes that arrive one after the other. -/
def rxBytes : List Byte → State → State
  | [], s => s
  | b :: rest, s => rxBytes rest (rxByte b s)

/-- RXBUF after a failed exchange: the bytes read stay, the others are unspecified (R26, R170, U6,
DESIGN CHOICE, log 8). -/
def keepBytes (n : Nat) (kept free : Frame) : Frame where
  b0 := if 0 < n then kept.b0 else free.b0
  b1 := if 1 < n then kept.b1 else free.b1
  b2 := if 2 < n then kept.b2 else free.b2
  b3 := if 3 < n then kept.b3 else free.b3
  b4 := if 4 < n then kept.b4 else free.b4
  b5 := if 5 < n then kept.b5 else free.b5
  b6 := if 6 < n then kept.b6 else free.b6
  b7 := if 7 < n then kept.b7 else free.b7
  b8 := if 8 < n then kept.b8 else free.b8

/-- How many response bytes have been read (R27). -/
def State.bytesRead (s : State) : Nat :=
  match s.phase with
  | .rx => s.idx.toNat
  | .idle => 0
  | .tx => 0

/-- The failure of an exchange in flight (R170, R171): nothing is sent, flushed or retried (R176,
R177); RXBUF beyond the bytes read is free. -/
def abort (c : Cause) (s : State) : State :=
  endOp (.transport c)
    { s with rxbuf := keepBytes s.bytesRead s.rxbuf (Config.freeFrame s.inst s.fresh), fresh := s.fresh + 1 }

/-- Tick (R169) and expiry (R170); nothing while IDLE. The comparison is on numbers, so it holds
whatever TIMER is (DEDUCED, log 16). -/
def tick (s : State) : State :=
  match s.phase with
  | .idle => s
  | .tx | .rx =>
    if s.lLimit.toNat ≤ s.timer.toNat + 1 then abort .timeout { s with timer := s.timer + 1 }
    else { s with timer := s.timer + 1 }

/-- Link error (R171); nothing while IDLE. -/
def linkError (s : State) : State :=
  match s.phase with
  | .idle => s
  | .tx => abort .linkError s
  | .rx => abort .linkError s

/-- `link_up` falls to 0 (R171, R346). -/
def linkClose (s : State) : State := linkError { s with linkUp := false }

/-- `link_up` rises to 1 (R346). -/
def linkOpen (s : State) : State := { s with linkUp := true }

/-- `rst` for one edge (R340 to R342): every element of R20 but the constant TPL takes its reset
value; an exchange is dropped without an outcome. What is outside the block stays (DESIGN CHOICE, log 31). -/
def resetBlock (s : State) : State :=
  { State.reset with tpl := s.tpl, linkUp := s.linkUp, pend := s.pend, inputs := s.inputs,
                     fresh := s.fresh, inst := s.inst }

/-- A host write to an operand register, allowed at any time (R22 to R24, R162). -/
def hostWrite (w : HostWrite) (s : State) : State :=
  match w with
  | .op v => { s with aOp := v }
  | .kind v => { s with aKind := v }
  | .addr v => { s with aAddr := v }
  | .cmd v => { s with aCmd := v }
  | .type v => { s with aType := v }
  | .motor v => { s with aMotor := v }
  | .value v => { s with aValue := v }
  | .timeout v => { s with aTimeout := v }
  | .mvt v => { s with aMvt := v }
  | .coord v => { s with aCoord := v }
  | .frame f => { s with aFrame := f }

/-- The host presents a start and holds it until it is accepted (R160). -/
def present (st : Start) (s : State) : State := { s with pend := some st }

/-- The host takes a start back before it is accepted (R180, DESIGN CHOICE, log 28). -/
def withdraw (s : State) : State := { s with pend := none }

/-- An event that is there only if a port says so. -/
def whenPort (b : Bool) (f : State → State) (s : State) : State := if b then f s else s

/-- `rx_valid` with `rx_data` at an edge. -/
def rxPort (d : Option Byte) (s : State) : State :=
  match d with
  | some b => rxByte b s
  | none => s

/-- The events of one clock edge in the hardware's order (R174): link, byte transfer, tick. The
model's choices here are DESIGN CHOICE, log 15: `rst` excludes the others; the receive side comes
before the transmit side; in RX the head of RXQ is taken at an edge only when a byte arrives with it
(R168, R312), without one by the event `rxTake` alone; a byte offered at the edge whose link error ends
RX is stale after it, and is not taken where RXQ has no room (R180). `op_valid = 0` takes a
presentation down (log 28); what `op_valid = 1` does is in Machine/Fetch.lean. -/
def clockEdge (p : Pins) (s : State) : State :=
  whenPort (!p.opValid) withdraw <|
    if p.rst then resetBlock s
    else
      whenPort p.tickMs tick <| whenPort p.txReady txStep <| rxPort p.rxData <|
        whenPort p.linkErr linkError <| if p.linkUp then linkOpen s else linkClose s

/-- The pc names no frame offset: an exchange in flight with IDX above 8 (R27, DESIGN CHOICE, log 22). -/
def State.badOffset (s : State) : Bool := s.busy && decide (8 < s.idx.toNat)

end Sys2Proof.Machine
end

