-- ==== Sys2Proof/Machine/Client.lean ====
section
/-! DEFINITION. The client family: CFGADDR, BUILD and SEND with its 17 kinds (42_client.md R200 to
R231), and the reserved operation words (30_encoding.md R107). -/

namespace Sys2Proof.Machine

/-- CFGADDR without the start condition (R200): already-set first, then the range; on acceptance
DEVADDR and CFG. -/
def cfgaddrOp (s : State) : State :=
  if s.cfg then endOp (.locl .addrAlreadySet) (latchOp 0 s)
  else if s.aAddr.toNat < 1 ∨ 255 < s.aAddr.toNat then endOp (.locl .address) (latchOp 0 s)
  else endOp .none { latchOp 0 s with devaddr := s.aAddr.extractLsb' 0 8, cfg := true }

/-- BUILD without the start condition (R202): kind, then address state, then movement type; the
value is not validated. -/
def buildOp (kind : BitVec 5) (s : State) : State :=
  match Kind.ofCode kind with
  | none => endOp (.locl .kind) (latchKind 3 kind s)
  | some k =>
    if s.cfg = false then endOp (.locl .addrNotSet) (latchKind 3 kind s)
    else
      match buildFrame s.tpl s.devaddr k s.aMvt s.aCoord s.aValue with
      | .error a => endOp (.locl a) (latchKind 3 kind s)
      | .ok f => endOp .none { latchKind 3 kind s with rFrame := f }

/-- SEND without the start condition (R210, R312): kind, address state, value range, movement type,
all before any link activity; then the first step of the exchange. -/
def sendOp (kind : BitVec 5) (s : State) : State :=
  match Kind.ofCode kind with
  | none => endOp (.locl .kind) (latchSend kind s)
  | some k =>
    if s.cfg = false then endOp (.locl .addrNotSet) (latchSend kind s)
    else
      match validate k s.aValue with
      | some a => endOp (.locl a) (latchSend kind s)
      | none =>
        match buildFrame s.tpl s.devaddr k s.aMvt s.aCoord s.aValue with
        | .error a => endOp (.locl a) (latchSend kind s)
        | .ok f => startExchange f (latchSend kind s)

/-- A reserved operation code (R107). -/
def reservedOp (op : BitVec 3) (s : State) : State := endOp (.locl .op) (latchOp op s)

/-- CFGADDR (R200). The five low bits are ignored (R110). -/
def execCfgaddr (_low : BitVec 5) (s : State) : Host.Outcome State Fault Refusal :=
  whenIdle s cfgaddrOp

/-- BUILD (R202, R203). -/
def execBuild (kind : BitVec 5) (s : State) : Host.Outcome State Fault Refusal :=
  whenIdle s (buildOp kind)

/-- SEND.MST, stop (R210, R215). -/
def execSendMst (s : State) : Host.Outcome State Fault Refusal := whenIdle s (sendOp 0)

/-- SEND.ROR, rotate-right (R210, R216). -/
def execSendRor (s : State) : Host.Outcome State Fault Refusal := whenIdle s (sendOp 1)

/-- SEND.ROL, rotate-left (R210, R217). -/
def execSendRol (s : State) : Host.Outcome State Fault Refusal := whenIdle s (sendOp 2)

/-- SEND.MVP, move-to-position (R210, R218). -/
def execSendMvp (s : State) : Host.Outcome State Fault Refusal := whenIdle s (sendOp 3)

/-- SEND.GAPOS, get-actual-position (R210, R219). -/
def execSendGapos (s : State) : Host.Outcome State Fault Refusal := whenIdle s (sendOp 4)

/-- SEND.SAPOS, set-actual-position (R210, R220). -/
def execSendSapos (s : State) : Host.Outcome State Fault Refusal := whenIdle s (sendOp 5)

/-- SEND.GMRES, get-microstep-resolution (R210, R221). -/
def execSendGmres (s : State) : Host.Outcome State Fault Refusal := whenIdle s (sendOp 6)

/-- SEND.SMRES, set-microstep-resolution (R210, R222). -/
def execSendSmres (s : State) : Host.Outcome State Fault Refusal := whenIdle s (sendOp 7)

/-- SEND.SMAXC, set-max-current (R210, R223). -/
def execSendSmaxc (s : State) : Host.Outcome State Fault Refusal := whenIdle s (sendOp 8)

/-- SEND.SSTBC, set-standby-current (R210, R224). -/
def execSendSstbc (s : State) : Host.Outcome State Fault Refusal := whenIdle s (sendOp 9)

/-- SEND.SPDD, set-power-down-delay (R210, R225). -/
def execSendSpdd (s : State) : Host.Outcome State Fault Refusal := whenIdle s (sendOp 10)

/-- SEND.SINTP, set-interpolation (R210, R226). -/
def execSendSintp (s : State) : Host.Outcome State Fault Refusal := whenIdle s (sendOp 11)

/-- SEND.SPDIV, set-pulse-divisor (R210, R227). -/
def execSendSpdiv (s : State) : Host.Outcome State Fault Refusal := whenIdle s (sendOp 12)

/-- SEND.SRDIV, set-ramp-divisor (R210, R228). -/
def execSendSrdiv (s : State) : Host.Outcome State Fault Refusal := whenIdle s (sendOp 13)

/-- SEND.SMAXA, set-max-acceleration (R210, R229). -/
def execSendSmaxa (s : State) : Host.Outcome State Fault Refusal := whenIdle s (sendOp 14)

/-- SEND.GIOV, get-GIO-voltage (R210, R230). -/
def execSendGiov (s : State) : Host.Outcome State Fault Refusal := whenIdle s (sendOp 15)

/-- SEND.GIOT, get-GIO-temperature (R210, R231). -/
def execSendGiot (s : State) : Host.Outcome State Fault Refusal := whenIdle s (sendOp 16)

/-- SEND with kind 17: Local(KIND) (R107). -/
def execSendReserved17 (s : State) : Host.Outcome State Fault Refusal := whenIdle s (sendOp 17)

/-- SEND with kind 18 or 19: Local(KIND) (R107). -/
def execSendReserved18to19 (low : BitVec 1) (s : State) : Host.Outcome State Fault Refusal :=
  whenIdle s (sendOp (0b1001#4 ++ low))

/-- SEND with kind 20 to 23: Local(KIND) (R107). -/
def execSendReserved20to23 (low : BitVec 2) (s : State) : Host.Outcome State Fault Refusal :=
  whenIdle s (sendOp (0b101#3 ++ low))

/-- SEND with kind 24 to 31: Local(KIND) (R107). -/
def execSendReserved24to31 (low : BitVec 3) (s : State) : Host.Outcome State Fault Refusal :=
  whenIdle s (sendOp (0b11#2 ++ low))

/-- Operation code 6: Local(OP) (R107). -/
def execReserved6 (_low : BitVec 5) (s : State) : Host.Outcome State Fault Refusal :=
  whenIdle s (reservedOp 6)

/-- Operation code 7: Local(OP) (R107). -/
def execReserved7 (_low : BitVec 5) (s : State) : Host.Outcome State Fault Refusal :=
  whenIdle s (reservedOp 7)

end Sys2Proof.Machine
end

