-- ==== Sys2Proof/Machine/Codec.lean ====
section
/-! DEFINITION. The codec family: ENCODE and DECODE (40_codec.md R142, R143). -/

namespace Sys2Proof.Machine

/-- ENCODE without the start condition (R142). -/
def encodeOp (s : State) : State :=
  endOp .none
    { latchOp 1 s with rFrame := encodeFrame (s.aAddr.extractLsb' 0 8) s.aCmd s.aType s.aMotor s.aValue }

/-- DECODE without the start condition (R143). -/
def decodeOperand (s : State) : State := endOp .none (writeDecode s.aFrame (latchOp 2 s))

/-- ENCODE (R142). The five low bits are ignored (R110). -/
def execEncode (_low : BitVec 5) (s : State) : Host.Outcome State Fault Refusal :=
  whenIdle s encodeOp

/-- DECODE (R143). The five low bits are ignored (R110). -/
def execDecode (_low : BitVec 5) (s : State) : Host.Outcome State Fault Refusal :=
  whenIdle s decodeOperand

end Sys2Proof.Machine
end

