-- ==== Sys2Proof/Decode.lean ====
section
/-! DEFINITION. The decoder (total; a frame that fits no row is refused by name) and after it the
encoder, from the tables of 30_encoding.md (R90, R91, R100 to R104, R107, R110) and
opcode_table.json. -/

namespace Sys2Proof

/-- Why bytes are no instruction. -/
inductive DecodeError where
  /-- fewer bytes than the port's instructions have -/
  | truncated
  /-- a command frame whose offsets 1 to 3 fit no row of the table -/
  | unknownTemplate (command type motor : Byte)
  /-- a response frame whose status byte has no name (R106) -/
  | unnamedStatus (status : Byte)
deriving DecidableEq, Repr

/-- A_OP = 5: the kind selects the row (R100, R107). -/
def decodeSend (k : BitVec 5) : Instr :=
  match k.toNat with
  | 0 => .sendMst
  | 1 => .sendRor
  | 2 => .sendRol
  | 3 => .sendMvp
  | 4 => .sendGapos
  | 5 => .sendSapos
  | 6 => .sendGmres
  | 7 => .sendSmres
  | 8 => .sendSmaxc
  | 9 => .sendSstbc
  | 10 => .sendSpdd
  | 11 => .sendSintp
  | 12 => .sendSpdiv
  | 13 => .sendSrdiv
  | 14 => .sendSmaxa
  | 15 => .sendGiov
  | 16 => .sendGiot
  | 17 => .sendReserved17
  | 18 | 19 => .sendReserved18to19 (k.extractLsb' 0 1)
  | 20 | 21 | 22 | 23 => .sendReserved20to23 (k.extractLsb' 0 2)
  | _ => .sendReserved24to31 (k.extractLsb' 0 3)

/-- The operation word `A_OP ++ A_KIND` (R110); every word is a row. -/
def decodeOp (w : BitVec 8) : Instr :=
  let k := w.extractLsb' 0 5
  match (w.extractLsb' 5 3).toNat with
  | 0 => .cfgaddr k
  | 1 => .encode k
  | 2 => .decode k
  | 3 => .build k
  | 4 => .execute k
  | 5 => decodeSend k
  | 6 => .reserved6 k
  | _ => .reserved7 k

/-- Offsets 1 to 3 of a frame are this template. -/
def Frame.hasTemplate (f : Frame) (t : Template) : Bool :=
  f.b1 == t.cmd && f.b2 == t.typ && f.b3 == t.mot

/-- The variable fields of a command frame (R90). -/
def Frame.cmdFields (f : Frame) : CmdFields := ⟨f.b0, f.value, f.b8⟩

/-- The variable fields of a response frame (R91). -/
def Frame.rspFields (f : Frame) : RspFields := ⟨f.b0, f.b1, f.b3, f.value, f.b8⟩

/-- A command frame: the table's 19 CMD72 rows, whose numbers are the default template table
(R101 to R103). Address, value and checksum are not looked at. -/
def decodeCmd (f : Frame) : Except DecodeError Instr :=
  let t := TemplateTable.default
  let x := f.cmdFields
  if f.hasTemplate t.mst then .ok (.cmdMst x)
  else if f.hasTemplate t.ror then .ok (.cmdRor x)
  else if f.hasTemplate t.rol then .ok (.cmdRol x)
  else if f.hasTemplate ⟨t.mvp.cmd, t.mvtAbs, 0⟩ then .ok (.cmdMvpAbs x)
  else if f.hasTemplate ⟨t.mvp.cmd, t.mvtRel, 0⟩ then .ok (.cmdMvpRel x)
  else if f.hasTemplate ⟨t.mvp.cmd, t.mvtCoord, f.b3⟩ then .ok (.cmdMvpCoord f.b3 x)
  else if f.hasTemplate t.gapos then .ok (.cmdGapos x)
  else if f.hasTemplate t.sapos then .ok (.cmdSapos x)
  else if f.hasTemplate t.gmres then .ok (.cmdGmres x)
  else if f.hasTemplate t.smres then .ok (.cmdSmres x)
  else if f.hasTemplate t.smaxc then .ok (.cmdSmaxc x)
  else if f.hasTemplate t.sstbc then .ok (.cmdSstbc x)
  else if f.hasTemplate t.spdd then .ok (.cmdSpdd x)
  else if f.hasTemplate t.sintp then .ok (.cmdSintp x)
  else if f.hasTemplate t.spdiv then .ok (.cmdSpdiv x)
  else if f.hasTemplate t.srdiv then .ok (.cmdSrdiv x)
  else if f.hasTemplate t.smaxa then .ok (.cmdSmaxa x)
  else if f.hasTemplate t.giov then .ok (.cmdGiov x)
  else if f.hasTemplate t.giot then .ok (.cmdGiot x)
  else .error (.unknownTemplate f.b1 f.b2 f.b3)

/-- A response frame: the table's eight RSP72 rows, by the status byte (R104, R106). -/
def decodeRsp (f : Frame) : Except DecodeError Instr :=
  let x := f.rspFields
  match f.b2.toNat with
  | 1 => .ok (.rspWrongChecksum x)
  | 2 => .ok (.rspInvalidCommand x)
  | 3 => .ok (.rspWrongType x)
  | 4 => .ok (.rspInvalidValue x)
  | 5 => .ok (.rspConfigurationEEPROMLocked x)
  | 6 => .ok (.rspCommandNotAvailable x)
  | 100 => .ok (.rspSuccess x)
  | 101 => .ok (.rspCommandLoadedIntoEEPROM x)
  | _ => .error (.unnamedStatus f.b2)

/-- The decoder on bytes: the instruction at the head for that port, with the rest of the list. -/
def decodeBytes : Port → List Byte → Except DecodeError (Instr × List Byte)
  | .op, w :: rest => .ok (decodeOp w, rest)
  | .cmd, b0 :: b1 :: b2 :: b3 :: b4 :: b5 :: b6 :: b7 :: b8 :: rest =>
    (decodeCmd ⟨b0, b1, b2, b3, b4, b5, b6, b7, b8⟩).map (·, rest)
  | .rsp, b0 :: b1 :: b2 :: b3 :: b4 :: b5 :: b6 :: b7 :: b8 :: rest =>
    (decodeRsp ⟨b0, b1, b2, b3, b4, b5, b6, b7, b8⟩).map (·, rest)
  | _, _ => .error .truncated

/-- A numbered frame word read as an instruction: first as a command, then as a response. The two
directions are told apart by the link, not by the bits (DEDUCED, log 18). -/
def decodeFrameWord (f : Frame) : Option Instr :=
  match decodeCmd f with
  | .ok i => some i
  | .error _ => (decodeRsp f).toOption

/-- The instruction whose bits are `w`, numbered as opcode_table.json numbers them: an 8-bit
operation word, or the 72-bit `W` with offset 0 at bits 71:64 (R10, DEDUCED, log 17). -/
def decodeTableWord (nbits w : Nat) : Option Instr :=
  if nbits = 8 then some (decodeOp (BitVec.ofNat 8 w))
  else if nbits = 72 then decodeFrameWord (Frame.ofWord (BitVec.ofNat 72 w))
  else none

/-- The operation word of a code and five low bits (R110). -/
def opWord (op : BitVec 3) (low : BitVec 5) : Byte := op ++ low

/-- The command frame of a template and its variable fields (R90). -/
def cmdFrame (t : Template) (x : CmdFields) : Frame :=
  { Frame.setValue ⟨x.address, t.cmd, t.typ, t.mot, 0, 0, 0, 0, 0⟩ x.value with b8 := x.checksum }

/-- The response frame of a status byte and its variable fields (R91). -/
def rspFrame (status : Byte) (x : RspFields) : Frame :=
  { Frame.setValue ⟨x.address, x.moduleByte, status, x.command, 0, 0, 0, 0, 0⟩ x.value with
    b8 := x.checksum }

/-- The port of an instruction. -/
def Instr.port : Instr → Port
  | .cfgaddr _ | .encode _ | .decode _ | .build _ | .execute _
  | .sendMst | .sendRor | .sendRol | .sendMvp | .sendGapos | .sendSapos | .sendGmres
  | .sendSmres | .sendSmaxc | .sendSstbc | .sendSpdd | .sendSintp | .sendSpdiv | .sendSrdiv
  | .sendSmaxa | .sendGiov | .sendGiot | .sendReserved17 | .sendReserved18to19 _
  | .sendReserved20to23 _ | .sendReserved24to31 _ | .reserved6 _ | .reserved7 _ => .op
  | .cmdMst _ | .cmdRor _ | .cmdRol _ | .cmdMvpAbs _ | .cmdMvpRel _ | .cmdMvpCoord _ _
  | .cmdGapos _ | .cmdSapos _ | .cmdGmres _ | .cmdSmres _ | .cmdSmaxc _ | .cmdSstbc _
  | .cmdSpdd _ | .cmdSintp _ | .cmdSpdiv _ | .cmdSrdiv _ | .cmdSmaxa _ | .cmdGiov _
  | .cmdGiot _ => .cmd
  | .rspWrongChecksum _ | .rspInvalidCommand _ | .rspWrongType _ | .rspInvalidValue _
  | .rspConfigurationEEPROMLocked _ | .rspCommandNotAvailable _ | .rspSuccess _
  | .rspCommandLoadedIntoEEPROM _ => .rsp

/-- How many bytes an instruction of a port has (R108, R110). -/
def Port.bytes : Port → Nat
  | .op => 1
  | .cmd => 9
  | .rsp => 9

/-- The words of an instruction, first byte first: the encoder. -/
def encode : Instr → List Byte
  | .cfgaddr low => [opWord 0 low]
  | .encode low => [opWord 1 low]
  | .decode low => [opWord 2 low]
  | .build kind => [opWord 3 kind]
  | .execute low => [opWord 4 low]
  | .sendMst => [opWord 5 0]
  | .sendRor => [opWord 5 1]
  | .sendRol => [opWord 5 2]
  | .sendMvp => [opWord 5 3]
  | .sendGapos => [opWord 5 4]
  | .sendSapos => [opWord 5 5]
  | .sendGmres => [opWord 5 6]
  | .sendSmres => [opWord 5 7]
  | .sendSmaxc => [opWord 5 8]
  | .sendSstbc => [opWord 5 9]
  | .sendSpdd => [opWord 5 10]
  | .sendSintp => [opWord 5 11]
  | .sendSpdiv => [opWord 5 12]
  | .sendSrdiv => [opWord 5 13]
  | .sendSmaxa => [opWord 5 14]
  | .sendGiov => [opWord 5 15]
  | .sendGiot => [opWord 5 16]
  | .sendReserved17 => [opWord 5 17]
  | .sendReserved18to19 low => [opWord 5 (0b1001#4 ++ low)]
  | .sendReserved20to23 low => [opWord 5 (0b101#3 ++ low)]
  | .sendReserved24to31 low => [opWord 5 (0b11#2 ++ low)]
  | .reserved6 low => [opWord 6 low]
  | .reserved7 low => [opWord 7 low]
  | .cmdMst x => (cmdFrame TemplateTable.default.mst x).toList
  | .cmdRor x => (cmdFrame TemplateTable.default.ror x).toList
  | .cmdRol x => (cmdFrame TemplateTable.default.rol x).toList
  | .cmdMvpAbs x =>
    (cmdFrame ⟨TemplateTable.default.mvp.cmd, TemplateTable.default.mvtAbs, 0⟩ x).toList
  | .cmdMvpRel x =>
    (cmdFrame ⟨TemplateTable.default.mvp.cmd, TemplateTable.default.mvtRel, 0⟩ x).toList
  | .cmdMvpCoord coord x =>
    (cmdFrame ⟨TemplateTable.default.mvp.cmd, TemplateTable.default.mvtCoord, coord⟩ x).toList
  | .cmdGapos x => (cmdFrame TemplateTable.default.gapos x).toList
  | .cmdSapos x => (cmdFrame TemplateTable.default.sapos x).toList
  | .cmdGmres x => (cmdFrame TemplateTable.default.gmres x).toList
  | .cmdSmres x => (cmdFrame TemplateTable.default.smres x).toList
  | .cmdSmaxc x => (cmdFrame TemplateTable.default.smaxc x).toList
  | .cmdSstbc x => (cmdFrame TemplateTable.default.sstbc x).toList
  | .cmdSpdd x => (cmdFrame TemplateTable.default.spdd x).toList
  | .cmdSintp x => (cmdFrame TemplateTable.default.sintp x).toList
  | .cmdSpdiv x => (cmdFrame TemplateTable.default.spdiv x).toList
  | .cmdSrdiv x => (cmdFrame TemplateTable.default.srdiv x).toList
  | .cmdSmaxa x => (cmdFrame TemplateTable.default.smaxa x).toList
  | .cmdGiov x => (cmdFrame TemplateTable.default.giov x).toList
  | .cmdGiot x => (cmdFrame TemplateTable.default.giot x).toList
  | .rspWrongChecksum x => (rspFrame 1 x).toList
  | .rspInvalidCommand x => (rspFrame 2 x).toList
  | .rspWrongType x => (rspFrame 3 x).toList
  | .rspInvalidValue x => (rspFrame 4 x).toList
  | .rspConfigurationEEPROMLocked x => (rspFrame 5 x).toList
  | .rspCommandNotAvailable x => (rspFrame 6 x).toList
  | .rspSuccess x => (rspFrame 100 x).toList
  | .rspCommandLoadedIntoEEPROM x => (rspFrame 101 x).toList

end Sys2Proof
end

