-- ==== Sys2Proof/Machine/Exchange.lean ====
section
/-! DEFINITION. The exchange family: EXECUTE (41_exchange.md R161, R165), its two halves at the
level of whole operations, and the 27 frame rows of opcode_table.json over them. -/

namespace Sys2Proof.Machine

/-- EXECUTE without the start condition (R161): the first step of its exchange. -/
def executeOp (s : State) : State := startExchange s.aFrame (latchLimit 4 s)

/-- EXECUTE (R161). The five low bits are ignored (R110). -/
def execExecute (_low : BitVec 5) (s : State) : Host.Outcome State Fault Refusal :=
  whenIdle s executeOp

/-- The writing half of EXECUTE at the level of whole operations (R161): the host hands over the
frame, the exchange starts, and the link takes its nine bytes with nothing between them. -/
def writeFrame (f : Frame) (s : State) : Host.Outcome State Fault Refusal :=
  whenIdle s fun s => txSteps 9 (executeOp { s with aFrame := f })

/-- The reading half (R161): nine bytes arrive on RXS with nothing between them. -/
def readFrame (f : Frame) (s : State) : Host.Outcome State Fault Refusal :=
  if s.badOffset then .fault .offsetOutOfFrame else .next (rxBytes f.toList s)

/-- CMD.MST on the line (R90, R215). -/
def execCmdMst (x : CmdFields) (s : State) : Host.Outcome State Fault Refusal :=
  writeFrame (cmdFrame TemplateTable.default.mst x) s

/-- CMD.ROR on the line (R90, R216). -/
def execCmdRor (x : CmdFields) (s : State) : Host.Outcome State Fault Refusal :=
  writeFrame (cmdFrame TemplateTable.default.ror x) s

/-- CMD.ROL on the line (R90, R217). -/
def execCmdRol (x : CmdFields) (s : State) : Host.Outcome State Fault Refusal :=
  writeFrame (cmdFrame TemplateTable.default.rol x) s

/-- CMD.MVP.ABS on the line (R90, R103, R218). -/
def execCmdMvpAbs (x : CmdFields) (s : State) : Host.Outcome State Fault Refusal :=
  writeFrame (cmdFrame ⟨TemplateTable.default.mvp.cmd, TemplateTable.default.mvtAbs, 0⟩ x) s

/-- CMD.MVP.REL on the line (R90, R103, R218). -/
def execCmdMvpRel (x : CmdFields) (s : State) : Host.Outcome State Fault Refusal :=
  writeFrame (cmdFrame ⟨TemplateTable.default.mvp.cmd, TemplateTable.default.mvtRel, 0⟩ x) s

/-- CMD.MVP.COORD on the line: offset 3 is the coordinate byte (R90, R103, R218). -/
def execCmdMvpCoord (coord : Byte) (x : CmdFields) (s : State) :
    Host.Outcome State Fault Refusal :=
  writeFrame (cmdFrame ⟨TemplateTable.default.mvp.cmd, TemplateTable.default.mvtCoord, coord⟩ x) s

/-- CMD.GAPOS on the line (R90, R219). -/
def execCmdGapos (x : CmdFields) (s : State) : Host.Outcome State Fault Refusal :=
  writeFrame (cmdFrame TemplateTable.default.gapos x) s

/-- CMD.SAPOS on the line (R90, R220). -/
def execCmdSapos (x : CmdFields) (s : State) : Host.Outcome State Fault Refusal :=
  writeFrame (cmdFrame TemplateTable.default.sapos x) s

/-- CMD.GMRES on the line (R90, R221). -/
def execCmdGmres (x : CmdFields) (s : State) : Host.Outcome State Fault Refusal :=
  writeFrame (cmdFrame TemplateTable.default.gmres x) s

/-- CMD.SMRES on the line (R90, R222). -/
def execCmdSmres (x : CmdFields) (s : State) : Host.Outcome State Fault Refusal :=
  writeFrame (cmdFrame TemplateTable.default.smres x) s

/-- CMD.SMAXC on the line (R90, R223). -/
def execCmdSmaxc (x : CmdFields) (s : State) : Host.Outcome State Fault Refusal :=
  writeFrame (cmdFrame TemplateTable.default.smaxc x) s

/-- CMD.SSTBC on the line (R90, R224). -/
def execCmdSstbc (x : CmdFields) (s : State) : Host.Outcome State Fault Refusal :=
  writeFrame (cmdFrame TemplateTable.default.sstbc x) s

/-- CMD.SPDD on the line (R90, R225). -/
def execCmdSpdd (x : CmdFields) (s : State) : Host.Outcome State Fault Refusal :=
  writeFrame (cmdFrame TemplateTable.default.spdd x) s

/-- CMD.SINTP on the line (R90, R226). -/
def execCmdSintp (x : CmdFields) (s : State) : Host.Outcome State Fault Refusal :=
  writeFrame (cmdFrame TemplateTable.default.sintp x) s

/-- CMD.SPDIV on the line (R90, R227). -/
def execCmdSpdiv (x : CmdFields) (s : State) : Host.Outcome State Fault Refusal :=
  writeFrame (cmdFrame TemplateTable.default.spdiv x) s

/-- CMD.SRDIV on the line (R90, R228). -/
def execCmdSrdiv (x : CmdFields) (s : State) : Host.Outcome State Fault Refusal :=
  writeFrame (cmdFrame TemplateTable.default.srdiv x) s

/-- CMD.SMAXA on the line (R90, R229). -/
def execCmdSmaxa (x : CmdFields) (s : State) : Host.Outcome State Fault Refusal :=
  writeFrame (cmdFrame TemplateTable.default.smaxa x) s

/-- CMD.GIOV on the line (R90, R230). -/
def execCmdGiov (x : CmdFields) (s : State) : Host.Outcome State Fault Refusal :=
  writeFrame (cmdFrame TemplateTable.default.giov x) s

/-- CMD.GIOT on the line (R90, R231). -/
def execCmdGiot (x : CmdFields) (s : State) : Host.Outcome State Fault Refusal :=
  writeFrame (cmdFrame TemplateTable.default.giot x) s

/-- RSP.WrongChecksum arrives (R91, R104). -/
def execRspWrongChecksum (x : RspFields) (s : State) : Host.Outcome State Fault Refusal :=
  readFrame (rspFrame 1 x) s

/-- RSP.InvalidCommand arrives (R91, R104). -/
def execRspInvalidCommand (x : RspFields) (s : State) : Host.Outcome State Fault Refusal :=
  readFrame (rspFrame 2 x) s

/-- RSP.WrongType arrives (R91, R104). -/
def execRspWrongType (x : RspFields) (s : State) : Host.Outcome State Fault Refusal :=
  readFrame (rspFrame 3 x) s

/-- RSP.InvalidValue arrives (R91, R104). -/
def execRspInvalidValue (x : RspFields) (s : State) : Host.Outcome State Fault Refusal :=
  readFrame (rspFrame 4 x) s

/-- RSP.ConfigurationEEPROMLocked arrives (R91, R104). -/
def execRspConfigurationEEPROMLocked (x : RspFields) (s : State) :
    Host.Outcome State Fault Refusal :=
  readFrame (rspFrame 5 x) s

/-- RSP.CommandNotAvailable arrives (R91, R104). -/
def execRspCommandNotAvailable (x : RspFields) (s : State) : Host.Outcome State Fault Refusal :=
  readFrame (rspFrame 6 x) s

/-- RSP.Success arrives (R91, R104). -/
def execRspSuccess (x : RspFields) (s : State) : Host.Outcome State Fault Refusal :=
  readFrame (rspFrame 100 x) s

/-- RSP.CommandLoadedIntoEEPROM arrives (R91, R104). -/
def execRspCommandLoadedIntoEEPROM (x : RspFields) (s : State) :
    Host.Outcome State Fault Refusal :=
  readFrame (rspFrame 101 x) s

end Sys2Proof.Machine
end

