-- ==== Sys2Proof/Machine/Dispatch.lean ====
section
/-! DEFINITION. Which meaning each instruction has: one arm per constructor of Instr. -/

namespace Sys2Proof.Machine

def exec (i : Instr) (s : State) : Host.Outcome State Fault Refusal :=
  match i with
  | .cfgaddr low => Sys2Proof.Machine.execCfgaddr low s
  | .encode low => Sys2Proof.Machine.execEncode low s
  | .decode low => Sys2Proof.Machine.execDecode low s
  | .build kind => Sys2Proof.Machine.execBuild kind s
  | .execute low => Sys2Proof.Machine.execExecute low s
  | .sendMst => Sys2Proof.Machine.execSendMst s
  | .sendRor => Sys2Proof.Machine.execSendRor s
  | .sendRol => Sys2Proof.Machine.execSendRol s
  | .sendMvp => Sys2Proof.Machine.execSendMvp s
  | .sendGapos => Sys2Proof.Machine.execSendGapos s
  | .sendSapos => Sys2Proof.Machine.execSendSapos s
  | .sendGmres => Sys2Proof.Machine.execSendGmres s
  | .sendSmres => Sys2Proof.Machine.execSendSmres s
  | .sendSmaxc => Sys2Proof.Machine.execSendSmaxc s
  | .sendSstbc => Sys2Proof.Machine.execSendSstbc s
  | .sendSpdd => Sys2Proof.Machine.execSendSpdd s
  | .sendSintp => Sys2Proof.Machine.execSendSintp s
  | .sendSpdiv => Sys2Proof.Machine.execSendSpdiv s
  | .sendSrdiv => Sys2Proof.Machine.execSendSrdiv s
  | .sendSmaxa => Sys2Proof.Machine.execSendSmaxa s
  | .sendGiov => Sys2Proof.Machine.execSendGiov s
  | .sendGiot => Sys2Proof.Machine.execSendGiot s
  | .sendReserved17 => Sys2Proof.Machine.execSendReserved17 s
  | .sendReserved18to19 low => Sys2Proof.Machine.execSendReserved18to19 low s
  | .sendReserved20to23 low => Sys2Proof.Machine.execSendReserved20to23 low s
  | .sendReserved24to31 low => Sys2Proof.Machine.execSendReserved24to31 low s
  | .reserved6 low => Sys2Proof.Machine.execReserved6 low s
  | .reserved7 low => Sys2Proof.Machine.execReserved7 low s
  | .cmdMst x => Sys2Proof.Machine.execCmdMst x s
  | .cmdRor x => Sys2Proof.Machine.execCmdRor x s
  | .cmdRol x => Sys2Proof.Machine.execCmdRol x s
  | .cmdMvpAbs x => Sys2Proof.Machine.execCmdMvpAbs x s
  | .cmdMvpRel x => Sys2Proof.Machine.execCmdMvpRel x s
  | .cmdMvpCoord coord x => Sys2Proof.Machine.execCmdMvpCoord coord x s
  | .cmdGapos x => Sys2Proof.Machine.execCmdGapos x s
  | .cmdSapos x => Sys2Proof.Machine.execCmdSapos x s
  | .cmdGmres x => Sys2Proof.Machine.execCmdGmres x s
  | .cmdSmres x => Sys2Proof.Machine.execCmdSmres x s
  | .cmdSmaxc x => Sys2Proof.Machine.execCmdSmaxc x s
  | .cmdSstbc x => Sys2Proof.Machine.execCmdSstbc x s
  | .cmdSpdd x => Sys2Proof.Machine.execCmdSpdd x s
  | .cmdSintp x => Sys2Proof.Machine.execCmdSintp x s
  | .cmdSpdiv x => Sys2Proof.Machine.execCmdSpdiv x s
  | .cmdSrdiv x => Sys2Proof.Machine.execCmdSrdiv x s
  | .cmdSmaxa x => Sys2Proof.Machine.execCmdSmaxa x s
  | .cmdGiov x => Sys2Proof.Machine.execCmdGiov x s
  | .cmdGiot x => Sys2Proof.Machine.execCmdGiot x s
  | .rspWrongChecksum x => Sys2Proof.Machine.execRspWrongChecksum x s
  | .rspInvalidCommand x => Sys2Proof.Machine.execRspInvalidCommand x s
  | .rspWrongType x => Sys2Proof.Machine.execRspWrongType x s
  | .rspInvalidValue x => Sys2Proof.Machine.execRspInvalidValue x s
  | .rspConfigurationEEPROMLocked x => Sys2Proof.Machine.execRspConfigurationEEPROMLocked x s
  | .rspCommandNotAvailable x => Sys2Proof.Machine.execRspCommandNotAvailable x s
  | .rspSuccess x => Sys2Proof.Machine.execRspSuccess x s
  | .rspCommandLoadedIntoEEPROM x => Sys2Proof.Machine.execRspCommandLoadedIntoEEPROM x s

end Sys2Proof.Machine
end

