-- ==== Sys2Proof/Machine/Fetch.lean ====
section
/-! DEFINITION. What the machine does next (41_exchange.md R160, R162; R73: the analogue of
instruction fetch) and how one event runs; the placing of an instruction where it is fetched. -/

namespace Sys2Proof.Machine

/-- One event: an accepted start, or one step of an agent (R162). -/
inductive Event where
  | start (st : Start)
  | input (i : Input)
deriving DecidableEq, Repr

/-- The next event and the state it runs in. A pending start is accepted as soon as PHASE is IDLE
(R160); otherwise the next waiting input is handled, and when none waits the oracle draws one
(R163, DESIGN CHOICE, log 9), by its instance: separate transports have separate draws (R72, R318). -/
def nextEvent (s : State) : Event × State :=
  match s.pend, s.phase, s.inputs with
  | some st, .idle, _ => (.start st, { s with pend := none })
  | _, _, i :: rest => (.input i, { s with inputs := rest })
  | _, _, [] => (.input (Config.oracle s.inst s.fresh), { s with fresh := s.fresh + 1 })

/-- An accepted start: the operation word is decoded and run (R110, R160); a whole frame is run as
its CMD72 row, and one that fits no row in the same way. -/
def runStart (st : Start) (s : State) : Host.Outcome State Fault Refusal :=
  match st with
  | .op => exec (decodeOp (opWord s.aOp s.aKind)) s
  | .frame f =>
    match decodeCmd f with
    | .ok i => exec i s
    | .error _ => writeFrame f s

/-- An event that moves bytes by IDX; it stops where IDX names no offset (DESIGN CHOICE, log 22). -/
def moving (f : State → State) (s : State) : Host.Outcome State Fault Refusal :=
  if s.badOffset then .fault .offsetOutOfFrame else .next (f s)

/-- One clock edge. An operation is accepted in the cycle with `op_valid = op_ready = 1` (R180):
`op_ready` is that PHASE is IDLE before the edge, and the operation runs after the edge's other
events (DESIGN CHOICE, log 15). With `op_ready = 0` it is not accepted and stays at the host (R160). -/
def runEdge (p : Pins) (s : State) : Host.Outcome State Fault Refusal :=
  if p.rst then .next (clockEdge p s)
  else if s.badOffset then .fault .offsetOutOfFrame
  else if p.opValid && decide (s.phase = .idle) then runStart .op (clockEdge p s)
  else .next (clockEdge p s)

/-- One input event (R162). A whole response frame is run as its RSP72 row, and one whose status has
no name in the same way (R106). -/
def runInput (i : Input) (s : State) : Host.Outcome State Fault Refusal :=
  match i with
  | .present st => .next (present st s)
  | .withdraw => .next (withdraw s)
  | .write w => .next (hostWrite w s)
  | .linkTakes => moving txStep s
  | .rxByte b => moving (rxByte b) s
  | .rxTake => moving rxTake s
  | .rxFrame f =>
    match decodeRsp f with
    | .ok i => exec i s
    | .error _ => readFrame f s
  | .tick => .next (tick s)
  | .linkErr => .next (linkError s)
  | .linkOpen => .next (linkOpen s)
  | .linkClose => .next (linkClose s)
  | .rst => .next (resetBlock s)
  | .edge p => runEdge p s

/-- One event runs. -/
def runEvent (e : Event) (s : State) : Host.Outcome State Fault Refusal :=
  match e with
  | .start st => runStart st s
  | .input i => runInput i s

/-- `s` with this instruction where the next step fetches: an operation word in A_OP and A_KIND,
presented to an idle block; a command frame presented to an idle block; a response frame at the
link with the block in the read phase of a SEND, since only there a frame is a response (DESIGN CHOICE, log 21). -/
def placeInstr (i : Instr) (s : State) : State :=
  match i.port, encode i with
  | .op, w :: _ =>
    { s.setPc .idle 0 with aOp := w.extractLsb' 5 3, aKind := w.extractLsb' 0 5, pend := some .op }
  | .cmd, b0 :: b1 :: b2 :: b3 :: b4 :: b5 :: b6 :: b7 :: b8 :: _ =>
    { s.setPc .idle 0 with pend := some (.frame ⟨b0, b1, b2, b3, b4, b5, b6, b7, b8⟩) }
  | .rsp, b0 :: b1 :: b2 :: b3 :: b4 :: b5 :: b6 :: b7 :: b8 :: _ =>
    { s.setPc .rx 0 with
      lOp := 5, inputs := .rxFrame ⟨b0, b1, b2, b3, b4, b5, b6, b7, b8⟩ :: s.inputs }
  | _, _ => s

end Sys2Proof.Machine
end

