-- ==== Sys2Proof/Machine/Motion.lean ====
section
/-! DEFINITION. The host's motion layer (43_motion_host.md R260 to R269): outside the block (R6),
transcribed as host rules, pure functions that say which SEND comes next. -/

namespace Sys2Proof.Machine

/-- DIR(motor), the configured direction (R45). -/
inductive Dir where
  | right | left
deriving DecidableEq, Repr

/-- The host operations of R262 to R266. -/
inductive HostOp where
  | stop
  | resetPosition
  | rotate (velocity : Int)
  | moveByAngle (angle : Int)
  | moveToAngle (angle : Int)
deriving DecidableEq, Repr

/-- A SEND the host issues: kind, movement selector, value. The coordinate byte is not named by any
host rule and stays as it is. -/
structure SendCmd where
  /-- A_KIND -/
  kind : Kind
  /-- A_MVT, where the kind is a move -/
  mvt : Option Byte
  /-- A_VALUE -/
  value : Word32
deriving DecidableEq, Repr

/-- What a host operation returns (R262 to R266): one outcome, two in order, or a local rejection. -/
inductive HostReturn where
  | one (r : Report)
  | two (r1 r2 : Report)
  | rejected (a : LocalArg)
deriving DecidableEq, Repr

/-- Where a host operation stands while its SEND is in flight (R262 to R266). -/
inductive Job where
  | stop
  | resetStop
  | resetSapos (first : Report)
  | rotate
  | moveBy
  | moveRead (angle : Int)
  | moveAbs
deriving DecidableEq, Repr

/-- `tdiv` (R9, R260). -/
def tdiv (a b : Int) : Int := Int.tdiv a b

/-- `tmod(a, b) = a - b * tdiv(a, b)` (R9, R260). -/
def tmod (a b : Int) : Int := a - b * tdiv a b

/-- The range of an angle, whole degrees (R265, R266). -/
def angleOk (angle : Int) : Bool := decide (-360 ≤ angle ∧ angle ≤ 360)

/-- The SEND and the new bias of rotate (R264), or the rejection. -/
def rotateCmd (dir : Dir) (v : Int) : Except LocalArg (SendCmd × Int) :=
  if v < velMin ∨ velMax < v then .error .velocity
  else
    match dir with
    | .right => if 0 ≤ v then .ok (⟨.ror, none, u32 v⟩, v) else .ok (⟨.rol, none, u32 (-v)⟩, v)
    | .left => if 0 ≤ v then .ok (⟨.rol, none, u32 v⟩, -v) else .ok (⟨.ror, none, u32 (-v)⟩, -v)

/-- The step delta of move_by_angle (R265). -/
def moveDelta (steps angle : Int) : Int := tdiv (angle * steps) 360

/-- The target of move_to_angle, steps a, b, d and e (R266). -/
def moveTarget (steps bias current angle : Int) : Int :=
  let inverted := decide (angle < 0)
  let angle := if angle < 0 then angle + 360 else angle
  let desired := tdiv (angle * steps) 360
  let cas := tmod current steps
  let base := current - cas
  if 0 ≤ bias then
    let target := if desired < cas then base + steps + desired else base + desired
    if inverted then target - steps else target
  else
    let target := if cas < desired then base - steps + desired else base + desired
    if inverted then target + steps else target

/-- A position that can be sent: 32 bits signed; outside it the host rules say nothing (U12). -/
def positionOk (p : Int) : Bool := decide (-2147483648 ≤ p ∧ p ≤ 2147483647)

/-- What the host does next. -/
inductive HostAction where
  /-- issue a SEND, with the new bias, and wait -/
  | issue (cmd : SendCmd) (bias : Int) (job : Job)
  /-- return, with the new bias -/
  | finish (r : HostReturn) (bias : Int)
  /-- a position outside 32 bits (U12) -/
  | overflow
deriving DecidableEq, Repr

/-- A move SEND, if its position fits (R265, R266, U12). -/
def moveCmd (mvt : Byte) (p bias : Int) (job : Job) : HostAction :=
  if positionOk p then .issue ⟨.mvp, some mvt, u32 p⟩ bias job else .overflow

/-- The first action of a host operation (R262 to R266). The bias of rotate is written when the
command is issued, that of stop after its SEND (DESIGN CHOICE, log 24). -/
def hostBegin (steps : Int) (dir : Dir) (bias : Int) : HostOp → HostAction
  | .stop => .issue ⟨.mst, none, 0⟩ bias .stop
  | .resetPosition => .issue ⟨.mst, none, 0⟩ bias .resetStop
  | .rotate v =>
    match rotateCmd dir v with
    | .ok (cmd, b) => .issue cmd b .rotate
    | .error a => .finish (.rejected a) bias
  | .moveByAngle angle =>
    if angleOk angle then moveCmd 1 (moveDelta steps angle) bias .moveBy
    else .finish (.rejected .angle) bias
  | .moveToAngle angle =>
    if angleOk angle then .issue ⟨.gapos, none, 0⟩ bias (.moveRead angle)
    else .finish (.rejected .angle) bias

/-- The action after a SEND has ended with this report and value (R262 to R266). -/
def hostResume (steps bias : Int) (r : Report) (value : Word32) : Job → HostAction
  | .stop => .finish (.one r) 0
  | .resetStop => .issue ⟨.sapos, none, 0⟩ 0 (.resetSapos r)
  | .resetSapos r1 => .finish (.two r1 r) bias
  | .rotate => .finish (.one r) bias
  | .moveBy => .finish (.one r) bias
  | .moveRead angle =>
    if r = .wire 100 then moveCmd 0 (moveTarget steps bias (s32 value) angle) bias .moveAbs
    else .finish (.one r) bias
  | .moveAbs => .finish (.one r) bias

end Sys2Proof.Machine
end

