-- ==== Sys2Proof/Machine/System.lean ====
section
/-! DEFINITION. A system of instances: one per motor, the instance selector (42_client.md R232,
60_exceptions.md R318) and the host's motion layer over them (43_motion_host.md). The core machine
is one instance; this file puts several side by side. -/

namespace Sys2Proof.Machine

/-- One motor: its VCF instance and the host's entry for it (R44, R45, R318). -/
structure Motor where
  /-- the instance this motor's host owns -/
  vcf : State
  /-- the last commanded signed velocity (R44) -/
  bias : Int
  /-- DIR(motor) (R45) -/
  dir : Dir
  /-- the host operation in progress -/
  job : Option Job
  /-- what the last host operation returned -/
  ret : Option HostReturn
deriving DecidableEq, Repr

/-- The system: motors by motor index, and the selector's answer to the last operation (R232). -/
structure System where
  /-- MOTOR_COUNT is the length -/
  motors : List Motor
  /-- STEPS_PER_ROTATION (R8, D35) -/
  steps : Int
  /-- Local(MOTOR_INDEX) if the last operation addressed to the selector named no motor; it holds
  until the next one (DESIGN CHOICE, log 32) -/
  selOut : Option LocalArg
deriving DecidableEq, Repr

/-- The motor of this index at controller creation: bias 0 (R44, R342), its own free values
(R72, R318, DESIGN CHOICE, log 9). -/
def Motor.create (index : Nat) (dir : Dir) : Motor :=
  ⟨{ State.reset with inst := index }, 0, dir, none, none⟩

/-- The motors of these directions, numbered from `index` on. -/
def createMotors (index : Nat) : List Dir → List Motor
  | [] => []
  | d :: rest => Motor.create index d :: createMotors (index + 1) rest

/-- A system at controller creation, one motor per configured direction; 3200 steps in the reference
configuration. -/
def System.create (dirs : List Dir) : System := ⟨createMotors 0 dirs, 3200, none⟩

/-- `1 <= MOTOR_COUNT <= MOTOR_COUNT_MAX` (R8). -/
def System.sized (s : System) : Bool :=
  decide (1 ≤ s.motors.length ∧ s.motors.length ≤ Config.motorCountMax)

/-- One event of the system. -/
inductive SysEvent where
  /-- one step of the instance at a motor index -/
  | run (m : Nat)
  /-- an event comes to wait at the ports of the instance at a motor index: its own transport, its
  own clock and reset (R72, R318) -/
  | input (m : Nat) (i : Input)
  /-- an operation addressed to a motor index (R232) -/
  | present (m : Nat) (st : Start)
  /-- a host operation with the timeout of its SENDs (R262 to R266) -/
  | host (m : Nat) (op : HostOp) (timeout : Word32)
  /-- the host looks at DONE and goes on if the SEND has ended (R269, R310) -/
  | poll (m : Nat)
deriving DecidableEq, Repr

/-- The operand writes and the start of a SEND (R345); A_TIMEOUT is written with the host operation. -/
def State.issueSend (cmd : SendCmd) (s : State) : State :=
  present .op
    { s with aOp := 5, aKind := cmd.kind.code, aValue := cmd.value, aMvt := cmd.mvt.getD s.aMvt }

/-- The host's action on its motor. -/
def Motor.act (m : Motor) : HostAction → Host.Outcome Motor Fault Refusal
  | .issue cmd bias job =>
    .next { m with vcf := m.vcf.issueSend cmd, bias := bias, job := some job, ret := none }
  | .finish r bias => .next { m with bias := bias, job := none, ret := some r }
  | .overflow => .refused .positionOverflow

/-- The SEND of the operation in progress has ended: DONE, idle, nothing pending (R30, R350). It does
not end when `rst` drops it, since DONE is then 0 (R341, DESIGN CHOICE, log 33). -/
def Motor.ended (m : Motor) : Bool :=
  m.vcf.done && !m.vcf.busy && decide (m.vcf.pend = none)

/-- A host operation begins; the owner of the motor begins none while one is in progress (R269), also
while one stands whose SEND `rst` has dropped (DESIGN CHOICE, logs 24, 33). -/
def Motor.host (steps : Int) (op : HostOp) (timeout : Word32) (m : Motor) :
    Host.Outcome Motor Fault Refusal :=
  match m.job, hostBegin steps m.dir m.bias op with
  | some _, _ => .next m
  | none, .issue cmd bias job =>
    { m with vcf := hostWrite (.timeout timeout) m.vcf }.act (.issue cmd bias job)
  | none, .finish r bias => m.act (.finish r bias)
  | none, .overflow => m.act .overflow

/-- The host goes on once the SEND has ended (R262 to R266). After `rst` dropped the SEND it goes on
with the next operation that ends on the instance (DESIGN CHOICE, log 33). -/
def Motor.poll (steps : Int) (m : Motor) : Host.Outcome Motor Fault Refusal :=
  match m.job with
  | some j =>
    if m.ended then m.act (hostResume steps m.bias m.vcf.report m.vcf.rValue j) else .next m
  | none => .next m

/-- One step of a motor's instance. -/
def Motor.run (m : Motor) : Host.Outcome Motor Fault Refusal :=
  match step m.vcf with
  | .next v => .next { m with vcf := v }
  | .fault e => .fault e
  | .refused e => .refused e

/-- An event comes to wait at the ports of a motor's instance, after those that wait. -/
def Motor.arrive (i : Input) (m : Motor) : Motor :=
  { m with vcf := { m.vcf with inputs := m.vcf.inputs ++ [i] } }

/-- Something happens at the motor of that index; where there is none, nothing is there to happen. -/
def System.onMotor (s : System) (m : Nat) (f : Motor → Host.Outcome Motor Fault Refusal) :
    Host.Outcome System Fault Refusal :=
  match s.motors[m]? with
  | none => .next s
  | some x =>
    match f x with
    | .next y => .next { s with motors := s.motors.set m y }
    | .fault e => .fault e
    | .refused e => .refused e

/-- The instance selector: an operation addressed to a motor index; an index outside
`[0, MOTOR_COUNT)` ends with Local(MOTOR_INDEX) and no instance sees it (R232). Its answer holds until
the next operation is addressed (DESIGN CHOICE, log 32). -/
def System.select (s : System) (m : Nat) (f : Motor → Host.Outcome Motor Fault Refusal) :
    Host.Outcome System Fault Refusal :=
  if m < s.motors.length then System.onMotor { s with selOut := none } m f
  else .next { s with selOut := some .motorIndex }

/-- One event of the system; any interleaving of the motors is a run (R72). Only `present` and `host`
are operations, which the selector answers; the other events are the motor's own. -/
def System.step (s : System) : SysEvent → Host.Outcome System Fault Refusal
  | .run m => s.onMotor m Motor.run
  | .input m i => s.onMotor m fun x => .next (x.arrive i)
  | .present m st => s.select m fun x => .next { x with vcf := Machine.present st x.vcf }
  | .host m op timeout => s.select m (Motor.host s.steps op timeout)
  | .poll m => s.onMotor m (Motor.poll s.steps)

end Sys2Proof.Machine
end

