-- ==== Sys2Proof/Machine/Ports.lean ====
section
/-! DEFINITION. The output ports of one instance (41_exchange.md R180) and the frame spaces as the
host's and the link's view of memory (10_state.md R40, 20_memory.md R60). -/

namespace Sys2Proof.Machine

/-- The two frame spaces (R40). -/
inductive Space where
  | t | r
deriving DecidableEq, Repr

/-- The buffer behind a frame space (R25, R26). -/
def State.space (s : State) : Space → Frame
  | .t => s.txbuf
  | .r => s.rxbuf

/-- `MemRead(S:off, n)` (R11, R61); reading has no side effect (R67). -/
def State.memRead (s : State) (sp : Space) (off n : Nat) : Option Word32 :=
  (s.space sp).memRead off n

/-- The output ports of R180. Widths as there. -/
structure Outputs where
  /-- `op_ready` -/
  opReady : Bool
  /-- `done` -/
  done : Bool
  /-- `statusreg` -/
  statusreg : BitVec 9
  /-- `result` -/
  result : BitVec 23
  /-- `r_frame`, offset 0 at bits 71:64 -/
  rFrame : BitVec 72
  /-- `r_value` -/
  rValue : Word32
  /-- `d_address` -/
  dAddress : Byte
  /-- `d_module` -/
  dModule : Byte
  /-- `d_status` -/
  dStatus : Byte
  /-- `d_cmd` -/
  dCmd : Byte
  /-- `d_value` -/
  dValue : Word32
  /-- `d_valid` -/
  dValid : Bool
  /-- `tx_valid` with `tx_data`: present iff PHASE = TX -/
  txData : Option Byte
  /-- `rx_ready` -/
  rxReady : Bool
deriving DecidableEq, Repr

/-- `rx_ready`: under discard always; under queue iff PHASE = RX or RXQ has room (R180). -/
def State.rxReady (s : State) : Bool :=
  match Config.rxStalePolicy with
  | .discard => true
  | .queue => decide (s.phase = .rx) || Config.rxqRoom s.rxq.length

/-- The output ports in a state (R180). -/
def State.outputs (s : State) : Outputs where
  opReady := decide (s.phase = .idle)
  done := s.done
  statusreg := s.statusreg
  result := s.result
  rFrame := s.rFrame.word
  rValue := s.rValue
  dAddress := s.dAddress
  dModule := s.dModule
  dStatus := s.dStatus
  dCmd := s.dCmd
  dValue := s.dValue
  dValid := s.dValid
  txData := if s.phase = .tx then s.txbuf.byteAt s.idx.toNat else none
  rxReady := s.rxReady

end Sys2Proof.Machine
end

