-- ==== Sys2Proof/Safety.lean ====
section
/-! DEFINITION. What a good state and a safe run are, in the terms the statements use. -/

namespace Sys2Proof.Safety

open Sys2Proof.Machine

/-- The sequencer is legal: IDLE has IDX 0 and IDX is never above 8 at the end of a step (R27). -/
def pcLegal (s : State) : Prop := s.idx.toNat ≤ 8 ∧ (s.phase = .idle → s.idx = 0)

/-- The device address is 1 to 255 once set (R21). -/
def addressLegal (s : State) : Prop := s.cfg = true → s.devaddr ≠ 0

/-- An exchange in flight: by EXECUTE or SEND, link open, no result yet, budget not used up
(R28, R30, R165, R169, R171). -/
def exchangeLegal (s : State) : Prop :=
  s.phase ≠ .idle →
    (s.lOp = 4 ∨ s.lOp = 5) ∧ s.linkUp = true ∧ s.done = false ∧ s.timer.toNat < s.lLimit.toNat

/-- A SEND in flight has a kind, a configured block, and a frame with its address and a right
checksum in TXBUF (R201, R202, R210). -/
def sendLegal (s : State) : Prop :=
  s.phase ≠ .idle → s.lOp = 5 →
    s.lKind.toNat ≤ 16 ∧ s.cfg = true ∧ s.txbuf.b0 = s.devaddr ∧ s.txbuf.valid = true

/-- The result registers hold one of the outcomes of R311, and a value only beside a valid decode
(R31, R33). -/
def resultLegal (s : State) : Prop :=
  (match s.rClass with
    | .wire => s.rCode.toNat ≤ 255 ∧ s.rArg = 0
    | .error => s.rCode = Config.errorCode ∧ 1 ≤ s.rArg.toNat ∧ s.rArg.toNat ≤ 4
    | .locl => s.rCode = 0 ∧ 1 ≤ s.rArg.toNat ∧ s.rArg.toNat ≤ 10
    | .none => s.rCode = 0 ∧ s.rArg = 0) ∧
  (s.rHasvalue = true → s.rClass = .wire ∧ s.dValid = true)

/-- The bytes of the exchange in flight are the end of TXS, in offset order and contiguous
(R27, R66, R69). -/
def streamLegal (s : State) : Prop :=
  match s.phase with
  | .idle => True
  | .tx => ∃ before, s.txs = before ++ s.txbuf.toList.take s.idx.toNat
  | .rx => ∃ before, s.txs = before ++ s.txbuf.toList

/-- Under the discard policy RXQ is always empty (R41). -/
def queueLegal (s : State) : Prop := Config.rxStalePolicy = .discard → s.rxq = []

/-- The invariant of one instance. -/
structure Legal (s : State) : Prop where
  /-- R36, R101 -/
  templates : s.tpl.distinct = true
  /-- R27 -/
  pc : pcLegal s
  /-- R21 -/
  address : addressLegal s
  /-- R28, R30, R165 -/
  exchange : exchangeLegal s
  /-- R201, R202 -/
  send : sendLegal s
  /-- R31, R33 -/
  result : resultLegal s
  /-- R66, R69 -/
  stream : streamLegal s
  /-- R41 -/
  queue : queueLegal s

/-- The SEND row of a kind (R100, R110). -/
def sendInstr : Kind → Instr
  | .mst => .sendMst
  | .ror => .sendRor
  | .rol => .sendRol
  | .mvp => .sendMvp
  | .gapos => .sendGapos
  | .sapos => .sendSapos
  | .gmres => .sendGmres
  | .smres => .sendSmres
  | .smaxc => .sendSmaxc
  | .sstbc => .sendSstbc
  | .spdd => .sendSpdd
  | .sintp => .sendSintp
  | .spdiv => .sendSpdiv
  | .srdiv => .sendSrdiv
  | .smaxa => .sendSmaxa
  | .giov => .sendGiov
  | .giot => .sendGiot

/-- An instruction's next state with a change made after it; a stop stays a stop. -/
def after (o : Host.Outcome State Fault Refusal) (f : State → State) :
    Host.Outcome State Fault Refusal :=
  match o with
  | .next t => .next (f t)
  | .fault e => .fault e
  | .refused e => .refused e

/-- An event that puts the registers of R20 back: `rst`, alone or at an edge (R340). -/
def isReset : Event → Bool
  | .input .rst => true
  | .input (.edge p) => p.rst
  | .input (.present _) | .input .withdraw | .input (.write _) | .input .linkTakes | .input (.rxByte _)
  | .input .rxTake | .input (.rxFrame _) | .input .tick | .input .linkErr | .input .linkOpen
  | .input .linkClose | .start _ => false

/-- How many ticks a list of inputs holds. -/
def ticks : List Input → Nat
  | [] => 0
  | .tick :: rest => ticks rest + 1
  | _ :: rest => ticks rest

/-- A step that stops neither with a fault nor with a refusal. -/
def Continues (o : Host.Outcome State Fault Refusal) : Prop := ∃ t, o = .next t

/-- The engine waits for the last byte of a response (R172). -/
def atLastByte (s : State) : Bool := decide (s.phase = .rx ∧ s.idx = 8)

/-- The next tick finds the budget used up (R169, R170). -/
def expiresNext (s : State) : Bool := decide (s.lLimit.toNat ≤ s.timer.toNat + 1)

/-- The events that take an instance in this state out of an exchange: expiry (R170), link error
(R171), completion (R172), reset (R340), or a clock edge that carries one of them (R174). A whole
response frame in the read phase completes it (DESIGN CHOICE, log 11). -/
def endsExchange (s : State) : Input → Bool
  | .tick => expiresNext s
  | .linkErr | .linkClose | .rst => true
  | .rxByte _ => atLastByte s
  | .rxTake => atLastByte s && !s.rxq.isEmpty
  | .rxFrame _ => decide (s.phase = .rx)
  | .edge p =>
    p.rst || p.linkErr || !p.linkUp || (p.rxData.isSome && atLastByte s) ||
      (p.tickMs && expiresNext s)
  | .present _ | .withdraw | .write _ | .linkTakes | .linkOpen => false

/-- An edge that accepts an operation if the block is idle (R180). -/
def offersStart : Input → Bool
  | .edge p => p.opValid && !p.rst
  | .present _ | .withdraw | .write _ | .linkTakes | .rxByte _ | .rxTake | .rxFrame _ | .tick
  | .linkErr | .linkOpen | .linkClose | .rst => false

/-- An event by which the host changes what it presents (R160, R180, log 28). -/
def changesPresentation : Input → Bool
  | .present _ | .withdraw => true
  | .edge p => !p.opValid
  | .write _ | .linkTakes | .rxByte _ | .rxTake | .rxFrame _ | .tick | .linkErr | .linkOpen
  | .linkClose | .rst => false

/-- The operand of a kind passes SEND's local checks: value range, and for a move its type
(R203, R204). -/
def argumentsLegal (k : Kind) (s : State) : Prop :=
  ((k = .ror ∨ k = .rol) → -2049 ≤ s.aValue.toInt ∧ s.aValue.toInt ≤ 2049) ∧
  (k = .smres → 1 ≤ s.aValue.toInt ∧ s.aValue.toInt ≤ 8) ∧
  (k = .mvp → s.aMvt.toNat ≤ 2)

end Sys2Proof.Safety
end

