-- ==== Sys2Proof/Certificates/Slice0/Obligations.lean ====
section
/-! DEFINITION. The statements for the provers, from the numbered rules of spec/. A result statement
gives the whole next state, so it is the completion and the frame of its instructions too. -/

open Sys2Proof Sys2Proof.Machine Sys2Proof.Safety

/- ## The codec (40_codec.md) -/

/-- R140: "the unsigned 8-bit sum of the first 8 bytes", modulo 256. -/
def Obligations.ChecksumIsSumModulo256 : Prop :=
  ∀ f : Frame, f.chk.toNat =
    (f.b0.toNat + f.b1.toNat + f.b2.toNat + f.b3.toNat + f.b4.toNat + f.b5.toNat + f.b6.toNat +
      f.b7.toNat) % 256

/-- R142: the nine bytes of ENCODE and its writes; nothing else changes but DONE's fall and rise and
L_OP (R24). The model's readings in it: the latches while IDLE are log 13's reading of R24
(DEDUCED); R_VALUE as before is log 14's reading of R311 (DEDUCED). -/
def Obligations.EncodeMakesTheFrame : Prop :=
  ∀ (low : BitVec 5) (s : State), s.phase = .idle →
    exec (.encode low) s = .next { s with
      lOp := 1
      rFrame := ⟨s.aAddr.extractLsb' 0 8, s.aCmd, s.aType, s.aMotor, s.aValue.extractLsb' 24 8,
        s.aValue.extractLsb' 16 8, s.aValue.extractLsb' 8 8, s.aValue.extractLsb' 0 8,
        s.aAddr.extractLsb' 0 8 + s.aCmd + s.aType + s.aMotor + s.aValue.extractLsb' 24 8 +
          s.aValue.extractLsb' 16 8 + s.aValue.extractLsb' 8 8 + s.aValue.extractLsb' 0 8⟩
      rClass := .none, rCode := 0, rArg := 0, rHasvalue := false
      phase := .idle, idx := 0, done := true }

/-- R143: the six outputs of DECODE, written whatever the validity; nothing else changes but the
result registers, DONE and L_OP (R24). The model's readings in it: the latches while IDLE are log
13's reading of R24 (DEDUCED); R_VALUE as before is log 14's reading of R311 (DEDUCED). -/
def Obligations.DecodeWritesSixOutputs : Prop :=
  ∀ (low : BitVec 5) (s : State), s.phase = .idle →
    exec (.decode low) s = .next { s with
      lOp := 2
      dAddress := s.aFrame.b0, dModule := s.aFrame.b1, dStatus := s.aFrame.b2, dCmd := s.aFrame.b3
      dValue := s.aFrame.b4 ++ s.aFrame.b5 ++ s.aFrame.b6 ++ s.aFrame.b7
      dValid := decide (s.aFrame.b8 = s.aFrame.b0 + s.aFrame.b1 + s.aFrame.b2 + s.aFrame.b3 +
        s.aFrame.b4 + s.aFrame.b5 + s.aFrame.b6 + s.aFrame.b7)
      rClass := .none, rCode := 0, rArg := 0, rHasvalue := false
      phase := .idle, idx := 0, done := true }

/-- R145, R148: ENCODE, then DECODE of the frame it made, is valid and gives the five operands back,
for every value word. The spec marks the field outputs of R145 as its own inference from R142 and
R143. -/
def Obligations.DecodeOfEncodeReturnsTheFields : Prop :=
  ∀ (le ld : BitVec 5) (s : State), s.phase = .idle →
    ∃ t u, exec (.encode le) s = .next t ∧
      exec (.decode ld) { t with aFrame := t.rFrame } = .next u ∧
      u.dValid = true ∧ u.dAddress = s.aAddr.extractLsb' 0 8 ∧ u.dModule = s.aCmd ∧
      u.dStatus = s.aType ∧ u.dCmd = s.aMotor ∧ u.dValue = s.aValue

/-- R146: flipping one bit of one byte of a valid frame, byte 8 included, makes it invalid. -/
def Obligations.SingleBitFlipIsDetected : Prop :=
  ∀ (f : Frame) (k bit : Nat) (b : Byte), f.valid = true → bit < 8 → f.byteAt k = some b →
    (f.setByte k (b ^^^ ((1 : Byte) <<< bit))).valid = false

/-- R61, R62, R65: access to a frame space. The value at offset 4 is big-endian; writing it sets its
four bytes and no other; each byte of it is its eight bits of the value; one byte is read and
written at each offset 0 to 8 and no other byte changes. That no other access has a result is log 29
(DESIGN CHOICE; R63 says that none is made). -/
def Obligations.FrameSpaceAccessIsBigEndian : Prop :=
  (∀ (f : Frame) (v : Word32),
    (∃ w, f.memRead 4 4 = some w ∧
      w.toNat = f.b4.toNat * 2 ^ 24 + f.b5.toNat * 2 ^ 16 + f.b6.toNat * 2 ^ 8 + f.b7.toNat ∧
      ∀ j, j < 4 → f.byteAt (4 + j) = some (w.extractLsb' (24 - 8 * j) 8)) ∧
    (f.memWrite 4 4 v = some { f with
      b4 := v.extractLsb' 24 8, b5 := v.extractLsb' 16 8, b6 := v.extractLsb' 8 8
      b7 := v.extractLsb' 0 8 }) ∧
    (∀ off, off ≤ 8 → ∃ b g, f.byteAt off = some b ∧ f.memRead off 1 = some (b.setWidth 32) ∧
      f.memWrite off 1 v = some g ∧ g.byteAt off = some (v.setWidth 8) ∧
      ∀ k, k ≠ off → g.byteAt k = f.byteAt k) ∧
    (∀ off n, ¬ (n = 1 ∧ off ≤ 8) → ¬ (n = 4 ∧ off = 4) →
      f.memRead off n = none ∧ f.memWrite off n v = none)) ∧
  (∀ (s : State) (off n : Nat),
    s.memRead .t off n = s.txbuf.memRead off n ∧ s.memRead .r off n = s.rxbuf.memRead off n)

/- ## The client (42_client.md) -/

/-- R200: already set first, then the range 1 to 255 on all 16 bits, else DEVADDR and CFG. The
model's readings in it: the latches while IDLE are log 13's reading of R24 (DEDUCED); R_VALUE as
before is log 14's reading of R311 (DEDUCED). -/
def Obligations.CfgaddrSetsTheAddressOnce : Prop :=
  ∀ (low : BitVec 5) (s : State), s.phase = .idle →
    exec (.cfgaddr low) s = .next (
      if s.cfg = true then { s with
        lOp := 0, rClass := .locl, rCode := 0, rArg := 7, rHasvalue := false
        phase := .idle, idx := 0, done := true }
      else if s.aAddr.toNat = 0 ∨ 256 ≤ s.aAddr.toNat then { s with
        lOp := 0, rClass := .locl, rCode := 0, rArg := 3, rHasvalue := false
        phase := .idle, idx := 0, done := true }
      else { s with
        lOp := 0, devaddr := s.aAddr.setWidth 8, cfg := true
        rClass := .none, rCode := 0, rArg := 0, rHasvalue := false
        phase := .idle, idx := 0, done := true })

/-- R202: BUILD of a kind other than a move, on a configured block: the frame ENCODE makes from
DEVADDR, the template and the value, for every value. The model's readings in it: the latches while
IDLE are log 13's reading of R24 (DEDUCED); R_VALUE as before is log 14's reading of R311 (DEDUCED).
-/
def Obligations.BuildMakesTheCommandFrame : Prop :=
  ∀ (k : Kind) (s : State), s.phase = .idle → s.cfg = true → k ≠ .mvp →
    exec (.build k.code) s = .next { s with
      lOp := 3, lKind := k.code
      rFrame := encodeFrame s.devaddr (s.tpl.entry k).cmd (s.tpl.entry k).typ (s.tpl.entry k).mot
        s.aValue
      rClass := .none, rCode := 0, rArg := 0, rHasvalue := false
      phase := .idle, idx := 0, done := true }

/-- R203: BUILD of a move: type byte and offset 3 by A_MVT; above 2 it is Local(MOVEMENT_TYPE) and
R_FRAME is unchanged. The model's readings in it: the latches while IDLE are log 13's reading of R24
(DEDUCED); R_VALUE as before is log 14's reading of R311 (DEDUCED). -/
def Obligations.BuildOfAMoveFollowsItsType : Prop :=
  ∀ s : State, s.phase = .idle → s.cfg = true →
    exec (.build 3) s = .next (
      if 3 ≤ s.aMvt.toNat then { s with
        lOp := 3, lKind := 3, rClass := .locl, rCode := 0, rArg := 5, rHasvalue := false
        phase := .idle, idx := 0, done := true }
      else { s with
        lOp := 3, lKind := 3
        rFrame := encodeFrame s.devaddr s.tpl.mvp.cmd
          (if s.aMvt = 0 then s.tpl.mvtAbs else if s.aMvt = 1 then s.tpl.mvtRel else s.tpl.mvtCoord)
          (if s.aMvt = 2 then s.aCoord else 0) s.aValue
        rClass := .none, rCode := 0, rArg := 0, rHasvalue := false
        phase := .idle, idx := 0, done := true })

/-- R107, R202: BUILD rejects a kind above 16 first, then an unset address; R_FRAME is unchanged.
The model's readings in it: the latches while IDLE are log 13's reading of R24 (DEDUCED), also at a
start that is rejected; R_VALUE as before is log 14's reading of R311 (DEDUCED). -/
def Obligations.BuildRejectsKindThenAddress : Prop :=
  ∀ (kind : BitVec 5) (s : State), s.phase = .idle → 16 < kind.toNat ∨ s.cfg = false →
    exec (.build kind) s = .next { s with
      lOp := 3, lKind := kind, rClass := .locl, rCode := 0
      rArg := if 16 < kind.toNat then 8 else 6
      rHasvalue := false, phase := .idle, idx := 0, done := true }

/-- R210 steps 0 to 2 with R165, for the 16 kinds other than the move (R215 to R217, R219 to R231):
configured, value in range, link open, timeout not 0: the exchange starts with the frame of the
kind. -/
def Obligations.SendStartsAnExchange : Prop :=
  ∀ (k : Kind) (s : State), s.phase = .idle → s.cfg = true → s.linkUp = true → s.aTimeout ≠ 0 →
    k ≠ .mvp →
    ((k = .ror ∨ k = .rol) → -2049 ≤ s.aValue.toInt ∧ s.aValue.toInt ≤ 2049) →
    (k = .smres → 1 ≤ s.aValue.toInt ∧ s.aValue.toInt ≤ 8) →
    exec (sendInstr k) s = .next { s with
      lOp := 5, lKind := k.code, lLimit := s.aTimeout
      txbuf := encodeFrame s.devaddr (s.tpl.entry k).cmd (s.tpl.entry k).typ (s.tpl.entry k).mot
        s.aValue
      timer := 0, phase := .tx, idx := 0, done := false }

/-- R218: SEND of a move, which has no range check on the position, for each of the three types. -/
def Obligations.SendOfAMoveStartsAnExchange : Prop :=
  ∀ s : State, s.phase = .idle → s.cfg = true → s.linkUp = true → s.aTimeout ≠ 0 →
    s.aMvt.toNat ≤ 2 →
    exec .sendMvp s = .next { s with
      lOp := 5, lKind := 3, lLimit := s.aTimeout
      txbuf := encodeFrame s.devaddr s.tpl.mvp.cmd
        (if s.aMvt = 0 then s.tpl.mvtAbs else if s.aMvt = 1 then s.tpl.mvtRel else s.tpl.mvtCoord)
        (if s.aMvt = 2 then s.aCoord else 0) s.aValue
      timer := 0, phase := .tx, idx := 0, done := false }

/-- R204, R216, R217, R222, R218: an argument out of range ends SEND locally: no byte is sent, and
the argument is named. The model's readings in it: the latches while IDLE are log 13's reading of
R24 (DEDUCED), also at a start that is rejected; R_VALUE as before is log 14's reading of R311
(DEDUCED). -/
def Obligations.SendRejectsOutOfRangeArguments : Prop :=
  ∀ (k : Kind) (arg : BitVec 4) (s : State), s.phase = .idle → s.cfg = true →
    ((k = .ror ∨ k = .rol) ∧ (s.aValue.toInt < -2049 ∨ 2049 < s.aValue.toInt) ∧ arg = 1 ∨
      k = .smres ∧ (s.aValue.toInt < 1 ∨ 8 < s.aValue.toInt) ∧ arg = 2 ∨
      k = .mvp ∧ 3 ≤ s.aMvt.toNat ∧ arg = 5) →
    exec (sendInstr k) s = .next { s with
      lOp := 5, lKind := k.code, lLimit := s.aTimeout
      rClass := .locl, rCode := 0, rArg := arg, rHasvalue := false
      phase := .idle, idx := 0, done := true }

/-- R210, R312: before the address is set every kind ends with Local(ADDR_NOT_SET), whatever the
value and the link. The model's readings in it: the latches while IDLE are log 13's reading of R24
(DEDUCED), also at a start that is rejected; R_VALUE as before is log 14's reading of R311
(DEDUCED). -/
def Obligations.SendNeedsTheAddress : Prop :=
  ∀ (k : Kind) (s : State), s.phase = .idle → s.cfg = false →
    exec (sendInstr k) s = .next { s with
      lOp := 5, lKind := k.code, lLimit := s.aTimeout
      rClass := .locl, rCode := 0, rArg := 6, rHasvalue := false
      phase := .idle, idx := 0, done := true }

/-- R107: the reserved SEND kinds end with Local(KIND), the reserved operation codes with Local(OP);
nothing is sent. The model's readings in it: the latches while IDLE are log 13's reading of R24
(DEDUCED), also at a start that is rejected; R_VALUE as before is log 14's reading of R311
(DEDUCED). -/
def Obligations.ReservedWordsEndLocally : Prop :=
  ∀ s : State, s.phase = .idle →
    (∀ (i : Instr) (kind : BitVec 5),
      (i = .sendReserved17 ∧ kind = 17 ∨
        (∃ x, i = .sendReserved18to19 x ∧ kind = 18 + x.setWidth 5) ∨
        (∃ x, i = .sendReserved20to23 x ∧ kind = 20 + x.setWidth 5) ∨
        (∃ x, i = .sendReserved24to31 x ∧ kind = 24 + x.setWidth 5)) →
      exec i s = .next { s with
        lOp := 5, lKind := kind, lLimit := s.aTimeout
        rClass := .locl, rCode := 0, rArg := 8, rHasvalue := false
        phase := .idle, idx := 0, done := true }) ∧
    (∀ (i : Instr) (op : BitVec 3),
      ((∃ x, i = .reserved6 x ∧ op = 6) ∨ (∃ x, i = .reserved7 x ∧ op = 7)) →
      exec i s = .next { s with
        lOp := op, rClass := .locl, rCode := 0, rArg := 9, rHasvalue := false
        phase := .idle, idx := 0, done := true })

/- ## The exchange engine (41_exchange.md) -/

/-- R165, for EXECUTE (R161): link not open ends as `Error` with cause LinkDown, else timeout 0 with
cause Timeout, nothing written; else the exchange starts with A_FRAME, any bytes. The model's
readings in it: the latches while IDLE are log 13's reading of R24 (DEDUCED), also where R165
rejects; R_VALUE as before is log 14's reading of R311 (DEDUCED). -/
def Obligations.ExecuteStartsOrFailsAtOnce : Prop :=
  ∀ (low : BitVec 5) (s : State), s.phase = .idle →
    exec (.execute low) s = .next (
      if s.linkUp = false then { s with
        lOp := 4, lLimit := s.aTimeout, rClass := .error, rCode := Config.errorCode, rArg := 3
        rHasvalue := false, phase := .idle, idx := 0, done := true }
      else if s.aTimeout = 0 then { s with
        lOp := 4, lLimit := s.aTimeout, rClass := .error, rCode := Config.errorCode, rArg := 1
        rHasvalue := false, phase := .idle, idx := 0, done := true }
      else { s with
        lOp := 4, lLimit := s.aTimeout, txbuf := s.aFrame, timer := 0
        phase := .tx, idx := 0, done := false })

/-- R165, R312: with the link not open, or the timeout 0, EXECUTE and every SEND that passes its
local checks (R210: address set, value in range, movement type) end as `Error` at once: link first,
nothing written. The model's readings in it: the latches while IDLE are log 13's reading of R24
(DEDUCED), also where R165 rejects; R_VALUE as before is log 14's reading of R311 (DEDUCED). -/
def Obligations.NoExchangeWithoutLinkOrBudget : Prop :=
  ∀ (i : Instr) (op : BitVec 3) (kind : BitVec 5) (s : State), s.phase = .idle →
    s.linkUp = false ∨ s.aTimeout = 0 →
    ((∃ low, i = .execute low) ∧ op = 4 ∧ kind = s.lKind ∨
      ∃ k, i = sendInstr k ∧ op = 5 ∧ kind = k.code ∧ s.cfg = true ∧ argumentsLegal k s) →
    exec i s = .next { s with
      lOp := op, lKind := kind, lLimit := s.aTimeout
      rClass := .error, rCode := Config.errorCode
      rArg := if s.linkUp = false then 3 else 1
      rHasvalue := false, phase := .idle, idx := 0, done := true }

/-- R166, R167: when the link takes a byte in TX the byte at IDX is put on TXS and the pc moves on;
the ninth byte moves to RX. -/
def Obligations.TransmitStepPutsOneByte : Prop :=
  ∀ (s : State) (rest : List Input) (b : Byte), s.phase = .tx →
    s.inputs = .linkTakes :: rest → s.txbuf.byteAt s.idx.toNat = some b →
    step s = .next { s with
      inputs := rest, txs := s.txs ++ [b]
      phase := if s.idx = 8 then .rx else .tx
      idx := if s.idx = 8 then 0 else s.idx + 1 }

/-- R168: a byte that arrives in RX below offset 8 is stored at IDX; with RXQ empty it is the byte
itself, else the head of RXQ counts as arriving first, also with no new arrival. That an arriving
byte is taken and goes to the tail of a non-empty RXQ is log 7 (DESIGN CHOICE, with R180). -/
def Obligations.ReceiveStepStoresOneByte : Prop :=
  ∀ (s : State) (rest : List Input), s.phase = .rx → s.idx.toNat < 8 →
    (∀ b, s.inputs = .rxByte b :: rest →
      step s = .next { s with
        inputs := rest, rxs := s.rxs ++ [b]
        rxbuf := s.rxbuf.setByte s.idx.toNat (s.rxq.headD b)
        rxq := (s.rxq ++ [b]).tail
        idx := s.idx + 1 }) ∧
    (∀ h q, s.rxq = h :: q → s.inputs = .rxTake :: rest →
      step s = .next { s with
        inputs := rest, rxbuf := s.rxbuf.setByte s.idx.toNat h, rxq := q, idx := s.idx + 1 })

/-- R172: the ninth byte completes EXECUTE: the nine bytes as they are, outcome None. It is the head
of RXQ, with a new arrival or without one (R168), else the byte that arrives. The model's choices in
it: the arriving byte at RXQ's tail is log 7 (DESIGN CHOICE); R_VALUE as before is log 14's reading
of R311 (DEDUCED). -/
def Obligations.NinthByteCompletesExecute : Prop :=
  ∀ (s : State) (rest : List Input) (f : Frame) (rxs rxq : List Byte), s.phase = .rx →
    s.idx = 8 → s.lOp = 4 →
    (∃ b, s.inputs = .rxByte b :: rest ∧ f = s.rxbuf.setByte 8 (s.rxq.headD b) ∧
        rxs = s.rxs ++ [b] ∧ rxq = (s.rxq ++ [b]).tail) ∨
      (∃ h, s.inputs = .rxTake :: rest ∧ s.rxq = h :: rxq ∧ f = s.rxbuf.setByte 8 h ∧
        rxs = s.rxs) →
    step s = .next { s with
      inputs := rest, rxs := rxs, rxq := rxq, rxbuf := f, rFrame := f
      rClass := .none, rCode := 0, rArg := 0, rHasvalue := false
      phase := .idle, idx := 0, done := true }

/-- R210 steps 3 and 4 with R211, R214: the ninth byte (as in NinthByteCompletesExecute) completes
SEND: the response is decoded; a wrong checksum is `Error` with cause Checksum, else the status byte
verbatim, and for the four get kinds (4, 6, 15, 16) the value. The model's choices in it: the
arriving byte at RXQ's tail is log 7 (DESIGN CHOICE); without a value, R_VALUE as before is log 14's
reading of R311 (DEDUCED). -/
def Obligations.NinthByteCompletesSend : Prop :=
  ∀ (s : State) (rest : List Input) (f : Frame) (rxs rxq : List Byte), s.phase = .rx →
    s.idx = 8 → s.lOp = 5 →
    (∃ b, s.inputs = .rxByte b :: rest ∧ f = s.rxbuf.setByte 8 (s.rxq.headD b) ∧
        rxs = s.rxs ++ [b] ∧ rxq = (s.rxq ++ [b]).tail) ∨
      (∃ h, s.inputs = .rxTake :: rest ∧ s.rxq = h :: rxq ∧ f = s.rxbuf.setByte 8 h ∧
        rxs = s.rxs) →
    step s = .next (
      let get := f.valid = true ∧ (s.lKind = 4 ∨ s.lKind = 6 ∨ s.lKind = 15 ∨ s.lKind = 16)
      { s with
        inputs := rest, rxs := rxs, rxq := rxq, rxbuf := f, rFrame := f
        dAddress := f.b0, dModule := f.b1, dStatus := f.b2, dCmd := f.b3, dValue := f.value
        dValid := f.valid
        rClass := if f.valid = true then .wire else .error
        rCode := if f.valid = true then f.b2.setWidth 16 else Config.errorCode
        rArg := if f.valid = true then 0 else 4
        rHasvalue := decide get, rValue := if get then f.value else s.rValue
        phase := .idle, idx := 0, done := true })

/-- R169, R170: a tick does nothing while IDLE; in an exchange it counts, and when the budget is
used up the exchange ends as `Error` with cause Timeout, and what was sent stays sent. The response
bytes read stay in RXBUF, whose other bytes are unspecified (R26). The model's readings in it: the
comparison without wrap is log 16 (DEDUCED); R_VALUE as before is log 14's reading of R311
(DEDUCED). -/
def Obligations.TickCountsAndExpires : Prop :=
  ∀ (s : State) (rest : List Input), s.pend = none ∨ s.phase ≠ .idle → s.inputs = .tick :: rest →
    (s.phase = .idle → step s = .next { s with inputs := rest }) ∧
    (s.phase ≠ .idle → s.timer.toNat + 1 < s.lLimit.toNat →
      step s = .next { s with inputs := rest, timer := s.timer + 1 }) ∧
    (s.phase ≠ .idle → s.lLimit.toNat ≤ s.timer.toNat + 1 →
      ∃ rx fresh, (∀ k, s.phase = .rx → k < s.idx.toNat → rx.byteAt k = s.rxbuf.byteAt k) ∧
        step s = .next { s with
        inputs := rest, timer := s.timer + 1, rxbuf := rx, fresh := fresh
        rClass := .error, rCode := Config.errorCode, rArg := 1, rHasvalue := false
        phase := .idle, idx := 0, done := true })

/-- R171: a link error, or link_up falling to 0, ends the exchange as `Error` with cause LinkError;
while IDLE it changes no register (link_up itself is the port). The response bytes read stay in
RXBUF (R170). The model's reading in it: R_VALUE as before is log 14's reading of R311 (DEDUCED). -/
def Obligations.LinkErrorEndsTheExchange : Prop :=
  ∀ (s : State) (rest : List Input) (i : Input), s.pend = none ∨ s.phase ≠ .idle →
    s.inputs = i :: rest → i = .linkErr ∨ i = .linkClose →
    (s.phase = .idle →
      step s = .next { s with
        inputs := rest, linkUp := if i = .linkClose then false else s.linkUp }) ∧
    (s.phase ≠ .idle →
      ∃ rx fresh, (∀ k, s.phase = .rx → k < s.idx.toNat → rx.byteAt k = s.rxbuf.byteAt k) ∧
        step s = .next { s with
        inputs := rest, rxbuf := rx, fresh := fresh
        linkUp := if i = .linkClose then false else s.linkUp
        rClass := .error, rCode := Config.errorCode, rArg := 2, rHasvalue := false
        phase := .idle, idx := 0, done := true })

/-- Link events outside their phase. R173: a byte outside the read phase is dropped under discard
and appended to RXQ under queue; that it is not taken where RXQ has no room is log 7 (DESIGN CHOICE,
with R180), the policy is log 6. R166, R167, R178: outside TX the link takes no byte, and outside RX
or with RXQ empty nothing is taken from RXQ. R346: link_up rising changes no register. IDX is at
most 8, as R27 says (log 22 beyond). -/
def Obligations.LinkEventsOutsideTheirPhase : Prop :=
  ∀ (s : State) (rest : List Input), s.pend = none ∨ s.phase ≠ .idle → s.idx.toNat ≤ 8 →
    (∀ b, s.phase ≠ .rx → s.inputs = .rxByte b :: rest →
      step s = .next (match Config.rxStalePolicy with
        | .discard => { s with inputs := rest, rxs := s.rxs ++ [b] }
        | .queue =>
          if Config.rxqRoom s.rxq.length = true then
            { s with inputs := rest, rxs := s.rxs ++ [b], rxq := s.rxq ++ [b] }
          else { s with inputs := rest })) ∧
    (s.phase ≠ .tx → s.inputs = .linkTakes :: rest → step s = .next { s with inputs := rest }) ∧
    (s.phase ≠ .rx ∨ s.rxq = [] → s.inputs = .rxTake :: rest →
      step s = .next { s with inputs := rest }) ∧
    (s.inputs = .linkOpen :: rest → step s = .next { s with inputs := rest, linkUp := true })

/-- R174: at one clock edge with an expiring tick, a link error wins over the byte transfers and the
tick, in every phase; without one the ninth byte completes EXECUTE or SEND before the tick, and in
TX the byte is put before the exchange expires. That a received byte comes before a transmitted one
at the edge is log 15 (DESIGN CHOICE), the arriving byte behind the head of RXQ log 7. -/
def Obligations.EdgeOrderIsLinkByteTick : Prop :=
  ∀ (s : State) (rest : List Input) (tx : Bool) (rx : Option Byte) (err : Bool),
    s.inputs = .edge ⟨false, false, tx, rx, true, err, true⟩ :: rest → s.phase ≠ .idle →
    s.idx.toNat ≤ 8 → s.lLimit.toNat ≤ s.timer.toNat + 1 →
    ∃ t, step s = .next t ∧ t.phase = .idle ∧ t.done = true ∧
      (err = true → t.rClass = .error ∧ t.rArg = 2 ∧ t.txs = s.txs ∧ t.rFrame = s.rFrame) ∧
      (∀ b f, err = false → s.phase = .rx → s.idx = 8 → rx = some b →
        f = s.rxbuf.setByte 8 (s.rxq.headD b) →
        t.rFrame = f ∧ (s.lOp = 4 → t.rClass = .none) ∧
        (s.lOp = 5 → f.valid = true → t.rClass = .wire ∧ t.rCode = f.b2.setWidth 16) ∧
        (s.lOp = 5 → f.valid = false → t.rClass = .error ∧ t.rArg = 4)) ∧
      (∀ b, err = false → s.phase = .tx → tx = true → s.txbuf.byteAt s.idx.toNat = some b →
        t.txs = s.txs ++ [b] ∧ t.rClass = .error ∧ t.rArg = 1)

/-- R160, R24: while BUSY no operation is accepted: exec refuses it (log 12, DEDUCED), the step
handles the next input and leaves the start pending unless that input is the host's own change of
what it presents (log 28, DESIGN CHOICE), and a clock edge with `op_valid` handles its other events
only (R180: `op_ready` is 0). -/
def Obligations.NoStartIsAcceptedWhileBusy : Prop :=
  (∀ (i : Instr) (s : State), i.port ≠ .rsp → s.phase ≠ .idle → exec i s = .refused .busy) ∧
  (∀ (st : Start) (i : Input) (rest : List Input) (s : State), s.phase ≠ .idle →
    s.pend = some st → s.inputs = i :: rest →
    step s = runInput i { s with inputs := rest } ∧
    ∀ t, step s = .next t → changesPresentation i = false → t.pend = some st) ∧
  (∀ (p : Pins) (rest : List Input) (s : State), s.phase ≠ .idle → s.idx.toNat ≤ 8 →
    s.inputs = .edge p :: rest → step s = .next (clockEdge p { s with inputs := rest }))

/-- R22, R23: a host write sets its one operand register and nothing else. -/
def Obligations.HostWriteSetsOneOperand : Prop :=
  ∀ (w : HostWrite) (rest : List Input) (s : State), s.pend = none ∨ s.phase ≠ .idle →
    s.inputs = .write w :: rest →
    step s = .next (match w with
      | .op v => { s with inputs := rest, aOp := v }
      | .kind v => { s with inputs := rest, aKind := v }
      | .addr v => { s with inputs := rest, aAddr := v }
      | .cmd v => { s with inputs := rest, aCmd := v }
      | .type v => { s with inputs := rest, aType := v }
      | .motor v => { s with inputs := rest, aMotor := v }
      | .value v => { s with inputs := rest, aValue := v }
      | .timeout v => { s with inputs := rest, aTimeout := v }
      | .mvt v => { s with inputs := rest, aMvt := v }
      | .coord v => { s with inputs := rest, aCoord := v }
      | .frame f => { s with inputs := rest, aFrame := f })

/-- R24, R73: a host write to an operand register changes nothing of the operation in flight: it
commutes with every event that is not a reset and not a further operand write, so only the next
start sees it. While IDLE an edge with `op_valid` is itself a start (R180) and does see it. -/
def Obligations.OperandWritesReachOnlyTheNextStart : Prop :=
  ∀ (w : HostWrite) (i : Input) (s : State), isReset (.input i) = false →
    (∀ v, i ≠ .write v) → s.phase ≠ .idle ∨ offersStart i = false →
    runInput i (hostWrite w s) = after (runInput i s) (hostWrite w)

/- ## Frames on the link (30_encoding.md R90, R91) -/

/-- R161's writing half for each of the 19 command frames, the model's reading of those rows (log
10, DESIGN CHOICE): from IDLE with the link open and a timeout, the nine bytes are appended to TXS
in offset order and the block waits for the response. -/
def Obligations.CommandFrameIsWrittenWhole : Prop :=
  ∀ (i : Instr) (f : Frame) (s : State), i.port = .cmd → encode i = f.toList →
    s.phase = .idle → s.linkUp = true → s.aTimeout ≠ 0 →
    exec i s = .next { s with
      aFrame := f, lOp := 4, lLimit := s.aTimeout, txbuf := f, timer := 0, done := false
      txs := s.txs ++ f.toList, phase := .rx, idx := 0 }

/-- R165 for the command frames, the model's reading of those rows (log 10, DESIGN CHOICE): without
link or budget nothing is written. The model's readings in it: the latches while IDLE are log 13's
reading of R24 (DEDUCED), also where R165 rejects; R_VALUE as before is log 14's reading of R311
(DEDUCED). -/
def Obligations.CommandFrameNeedsLinkAndBudget : Prop :=
  ∀ (i : Instr) (f : Frame) (s : State), i.port = .cmd → encode i = f.toList →
    s.phase = .idle → s.linkUp = false ∨ s.aTimeout = 0 →
    exec i s = .next { s with
      aFrame := f, lOp := 4, lLimit := s.aTimeout
      rClass := .error, rCode := Config.errorCode
      rArg := if s.linkUp = false then 3 else 1
      rHasvalue := false, phase := .idle, idx := 0, done := true }

/-- R172 with R161 for each of the eight response frames, the model's reading of those rows (log 11,
DESIGN CHOICE): nine arrivals complete an EXECUTE with the first nine bytes of the queue and the
frame, which is the frame when RXQ is empty. The model's choices in it: the RXQ left over is log 7
(DESIGN CHOICE); R_VALUE as before is log 14's reading of R311 (DEDUCED). -/
def Obligations.ResponseFrameCompletesExecute : Prop :=
  ∀ (i : Instr) (f g : Frame) (s : State), i.port = .rsp → encode i = f.toList →
    s.phase = .rx → s.idx = 0 → s.lOp = 4 → g.toList = (s.rxq ++ f.toList).take 9 →
    exec i s = .next { s with
      rxs := s.rxs ++ f.toList, rxq := (s.rxq ++ f.toList).drop 9, rxbuf := g, rFrame := g
      rClass := .none, rCode := 0, rArg := 0, rHasvalue := false
      phase := .idle, idx := 0, done := true }

/-- R211, R214 for each of the eight response frames, the model's reading of those rows (log 11,
DESIGN CHOICE): a valid response ends SEND with its status byte verbatim and the value for a get
kind, an invalid one as `Error`. The model's choices in it: the RXQ left over is log 7 (DESIGN
CHOICE); without a value, R_VALUE as before is log 14's reading of R311 (DEDUCED). -/
def Obligations.ResponseFrameCompletesSend : Prop :=
  ∀ (i : Instr) (f g : Frame) (s : State), i.port = .rsp → encode i = f.toList →
    s.phase = .rx → s.idx = 0 → s.lOp = 5 → g.toList = (s.rxq ++ f.toList).take 9 →
    exec i s = .next (
      let get := g.valid = true ∧ (s.lKind = 4 ∨ s.lKind = 6 ∨ s.lKind = 15 ∨ s.lKind = 16)
      { s with
        rxs := s.rxs ++ f.toList, rxq := (s.rxq ++ f.toList).drop 9, rxbuf := g, rFrame := g
        dAddress := g.b0, dModule := g.b1, dStatus := g.b2, dCmd := g.b3, dValue := g.value
        dValid := g.valid
        rClass := if g.valid = true then .wire else .error
        rCode := if g.valid = true then g.b2.setWidth 16 else Config.errorCode
        rArg := if g.valid = true then 0 else 4
        rHasvalue := decide get, rValue := if get then g.value else s.rValue
        phase := .idle, idx := 0, done := true })

/-- That a response frame is nine arrivals is the model's reading of those rows (log 11, DESIGN
CHOICE, after R161's draw): in every phase and at every IDX the nine byte events (R168, R172, R173)
reach the same state. -/
def Obligations.ResponseFrameIsNineArrivals : Prop :=
  ∀ (i : Instr) (f : Frame) (s : State) (rest : List Input), i.port = .rsp →
    encode i = f.toList → s.pend = none → s.idx.toNat ≤ 8 →
    ∃ t, exec i s = .next t ∧
      core.run 9 { s with inputs := f.toList.map .rxByte ++ rest } = .next { t with inputs := rest }

/-- R212, R144: two responses with the same status, value and validity end a SEND alike whatever
their address, module and command number; of invalid ones nothing at all is told apart. -/
def Obligations.EchoFieldsAreNotChecked : Prop :=
  ∀ (f g : Frame) (s : State),
    (f.valid = true ∧ g.valid = true ∧ f.b2 = g.b2 ∧ f.value = g.value) ∨
      (f.valid = false ∧ g.valid = false) →
    ∀ t u, t = finishSend { s with rxbuf := f } → u = finishSend { s with rxbuf := g } →
      t.rClass = u.rClass ∧ t.rCode = u.rCode ∧ t.rArg = u.rArg ∧ t.rValue = u.rValue ∧
      t.rHasvalue = u.rHasvalue ∧ t.done = u.done

/-- R178, R161: EXECUTE followed by nine byte steps of the engine reaches the state of the command
frame written whole, which is the model's reading of those rows (log 10, DESIGN CHOICE). -/
def Obligations.NineTransmitStepsWriteTheFrame : Prop :=
  ∀ (i : Instr) (f : Frame) (low : BitVec 5) (s : State) (rest : List Input), i.port = .cmd →
    encode i = f.toList → s.phase = .idle → s.linkUp = true → s.aTimeout ≠ 0 →
    ∃ t u, exec (.execute low) { s with aFrame := f } = .next t ∧ exec i s = .next u ∧
      core.run 9 { t with inputs := List.replicate 9 .linkTakes ++ rest } =
        .next { u with inputs := rest }

/-- R178: the success branch of R161 with RXQ empty and no tick, byte by byte: nine transmit steps
and nine received bytes from the start of EXECUTE put the command on TXS in order and return the
nine bytes. The model's readings in it: the latches while IDLE are log 13's reading of R24
(DEDUCED); R_VALUE as before is log 14's reading of R311 (DEDUCED). -/
def Obligations.ByteStepsRefineExecute : Prop :=
  ∀ (low : BitVec 5) (b : Frame) (s : State) (rest : List Input), s.phase = .idle →
    s.linkUp = true → s.aTimeout ≠ 0 → s.rxq = [] →
    ∃ t, exec (.execute low) s = .next t ∧
      core.run 18 { t with
        pend := none
        inputs := List.replicate 9 .linkTakes ++ b.toList.map .rxByte ++ rest } =
      .next { s with
        pend := none, inputs := rest
        lOp := 4, lLimit := s.aTimeout, txbuf := s.aFrame, timer := 0
        txs := s.txs ++ s.aFrame.toList, rxs := s.rxs ++ b.toList, rxbuf := b, rFrame := b
        rClass := .none, rCode := 0, rArg := 0, rHasvalue := false
        phase := .idle, idx := 0, done := true }

/- ## Decoding (30_encoding.md, opcode_table.json) -/

/-- Every instruction of every row, with every value of its fields, decodes from its own words. The
words of the command frames are those of the default templates (logs 3, 4, PRESUMED). -/
def Obligations.EncodeThenDecodeIsIdentity : Prop :=
  ∀ (i : Instr) (rest : List Byte), decodeBytes i.port (encode i ++ rest) = .ok (i, rest)

/-- Whatever decodes has exactly the words it was decoded from: no bit is dropped. The words of the
command frames are those of the default templates (logs 3, 4, PRESUMED). -/
def Obligations.DecodeThenEncodeIsIdentity : Prop :=
  ∀ (p : Port) (bs rest : List Byte) (i : Instr), decodeBytes p bs = .ok (i, rest) →
    i.port = p ∧ encode i ++ rest = bs

/-- Some words written out from R110, R101 and R104 (the frames are K2 and K21 of
95_test_vectors.md). That K2 is the rotate-right row rests on the presumed template numbers (log 3,
PRESUMED). -/
def Obligations.SomeWordsDecode : Prop :=
  decodeOp 0x00 = .cfgaddr 0 ∧ decodeOp 0x20 = .encode 0 ∧ decodeOp 0x40 = .decode 0 ∧
  decodeOp 0x61 = .build 1 ∧ decodeOp 0x80 = .execute 0 ∧ decodeOp 0xA4 = .sendGapos ∧
  decodeOp 0xB3 = .sendReserved18to19 1 ∧ decodeOp 0xFF = .reserved7 31 ∧
  decodeCmd ⟨0x01, 0x01, 0x00, 0x00, 0x00, 0x00, 0x08, 0x01, 0x0B⟩ =
    .ok (.cmdRor ⟨1, 2049, 0x0B⟩) ∧
  decodeRsp ⟨0x01, 0x02, 0x64, 0x06, 0xFF, 0xFF, 0xFF, 0x9C, 0x06⟩ =
    .ok (.rspSuccess ⟨1, 2, 6, 0xFFFFFF9C, 0x06⟩)

/-- R104, R106: a response frame is refused by the decoder, by name, exactly when its status byte
has none of the eight names. -/
def Obligations.UnnamedStatusIsRefusedByName : Prop :=
  ∀ f : Frame, decodeRsp f = .error (.unnamedStatus f.b2) ↔
    f.b2 ∉ ([1, 2, 3, 4, 5, 6, 100, 101] : List Byte)

/- ## The machine -/

/-- A step runs the decoded instruction. A start presented to an idle block is decoded from A_OP and
A_KIND and run with the presentation taken down (R160, R110); an operation at a clock edge with
`op_valid = op_ready = 1` is decoded and run at that edge, after its other events (R180; last is log
15, DESIGN CHOICE). A frame presented is run as its command row (log 10, DESIGN CHOICE), and written
in the same way if it fits none; a frame at the link is run as its response row with the input
consumed (log 11, DESIGN CHOICE), and read in the same way if its status has no name. -/
def Obligations.StepRunsTheDecodedInstruction : Prop :=
  (∀ s : State, s.pend = some .op → s.phase = .idle →
    step s = exec (decodeOp (s.aOp ++ s.aKind)) { s with pend := none }) ∧
  (∀ (s : State) (f : Frame), s.pend = some (.frame f) → s.phase = .idle →
    (∀ i, decodeCmd f = .ok i → step s = exec i { s with pend := none }) ∧
    (∀ e, decodeCmd f = .error e → step s = writeFrame f { s with pend := none })) ∧
  (∀ (s : State) (f : Frame) (rest : List Input), s.pend = none ∨ s.phase ≠ .idle →
    s.inputs = .rxFrame f :: rest →
    (∀ i, decodeRsp f = .ok i → step s = exec i { s with inputs := rest }) ∧
    (∀ e, decodeRsp f = .error e → step s = readFrame f { s with inputs := rest })) ∧
  (∀ (s : State) (p : Pins) (rest : List Input), s.pend = none → s.phase = .idle →
    s.inputs = .edge p :: rest → p.rst = false → p.opValid = true →
    step s = exec (decodeOp (s.aOp ++ s.aKind)) (clockEdge p { s with inputs := rest }))

/-- R340: the values the spec gives for reset. -/
def Obligations.ResetValuesOfTheSpec : Prop :=
  State.reset.phase = .idle ∧ State.reset.idx = 0 ∧ State.reset.timer = 0 ∧
  State.reset.cfg = false ∧ State.reset.done = false ∧ State.reset.rHasvalue = false ∧
  State.reset.rxq = [] ∧ State.reset.txs = [] ∧ State.reset.busy = false

/-- R340, R341: rst at any moment drops an exchange without an outcome: PHASE, IDX, TIMER, CFG,
DONE, R_HASVALUE, RXQ take their reset values, TPL is untouched (R342), and no result is reported.
That the presented start, link_up and the waiting inputs stay as they were is the model's choice
(log 31, DESIGN CHOICE). -/
def Obligations.ResetDropsTheExchange : Prop :=
  ∀ (s : State) (rest : List Input), s.pend = none ∨ s.phase ≠ .idle → s.inputs = .rst :: rest →
    ∃ t, step s = .next t ∧ t.phase = .idle ∧ t.idx = 0 ∧ t.timer = 0 ∧ t.cfg = false ∧
      t.done = false ∧ t.rHasvalue = false ∧ t.rxq = [] ∧ t.txs = [] ∧ t.tpl = s.tpl ∧
      t.pend = s.pend ∧ t.linkUp = s.linkUp ∧ t.inputs = rest

/-- The invariant holds after reset. It rests on the register values of log 2 (DESIGN CHOICE) and
the default table of logs 3 and 4 (PRESUMED). -/
def Obligations.ResetStateIsLegal : Prop := Legal State.reset

/-- Every step keeps the invariant: R21, R27, R28, R30, R31, R33, R36, R41, R66, R201. Over the
event rst it rests on the values of R_CLASS, R_CODE and R_ARG after reset, which are the model's
choice (log 2, DESIGN CHOICE). -/
def Obligations.EveryStepKeepsTheInvariant : Prop :=
  ∀ s t : State, Legal s → step s = .next t → Legal t

/-- From a legal state every step goes on: no outcome is a fault (R149, R213, R320). -/
def Obligations.LegalStatesNeverStop : Prop := ∀ s : State, Legal s → Continues (step s)

/-- R36: no step writes the template table. -/
def Obligations.TemplatesAreConstant : Prop := ∀ s t : State, step s = .next t → t.tpl = s.tpl

/-- R21: once CFG is 1 no operation and no event changes DEVADDR or CFG until reset. -/
def Obligations.AddressIsImmutableOnceSet : Prop :=
  ∀ s t : State, step s = .next t → s.cfg = true → isReset (nextEvent s).1 = false →
    t.cfg = true ∧ t.devaddr = s.devaddr

/-- R38: the block only appends to TXS, until reset. -/
def Obligations.TransmitStreamOnlyGrows : Prop :=
  ∀ s t : State, step s = .next t → isReset (nextEvent s).1 = false →
    ∃ bs, t.txs = s.txs ++ bs

/-- R175: exactly expiry, a link error, completion by the ninth byte, or reset takes the block out
of an exchange, or a clock edge that carries one of these; the host has no event that does. Which of
an edge's events counts is log 15 (DESIGN CHOICE), a whole response frame log 11 (DESIGN CHOICE). -/
def Obligations.OnlyExpiryErrorCompletionOrResetEndAnExchange : Prop :=
  ∀ s t : State, step s = .next t → s.phase ≠ .idle →
    (t.phase = .idle ↔ ∃ i, (nextEvent s).1 = .input i ∧ endsExchange s i = true)

/-- R179, which the spec marks as its own inference from R169 and R170: an exchange in flight ends
within the ticks its budget has left, whatever else the link, the host and the device do in between.
-/
def Obligations.ExchangeEndsWithinItsTicks : Prop :=
  ∀ s : State, Legal s → s.phase ≠ .idle →
    s.lLimit.toNat - s.timer.toNat ≤ ticks s.inputs →
    ∃ k t, k ≤ s.inputs.length ∧ core.run k s = .next t ∧ t.phase = .idle

/-- R301: an operation that ends with a local validation error has put no byte on TXS, left both
buffers and R_FRAME alone and never left IDLE. -/
def Obligations.LocalErrorsTouchNoLink : Prop :=
  ∀ (i : Instr) (s t : State), i.port = .op → exec i s = .next t → t.done = true →
    t.rClass = .locl →
    t.txs = s.txs ∧ t.txbuf = s.txbuf ∧ t.rxbuf = s.rxbuf ∧ t.rFrame = s.rFrame ∧
    t.phase = .idle ∧ t.devaddr = s.devaddr ∧ t.cfg = s.cfg

/-- R105, R211: ERROR_CODE is above 1000, so no status byte on the wire equals it. -/
def Obligations.ErrorIsNoWireStatus : Prop :=
  1000 < Config.errorCode.toNat ∧ ∀ b : Byte, b.setWidth 16 ≠ Config.errorCode

/-- R22, R27, R29, R31: the fields of STATUSREG and RESULT and their codes. -/
def Obligations.StatusRegistersPackTheirFields : Prop :=
  ∀ s : State,
    s.statusreg.extractLsb' 0 1 = (if s.phase = .idle then 0 else 1) ∧
    s.statusreg.extractLsb' 1 1 = (if s.done = true then 1 else 0) ∧
    s.statusreg.extractLsb' 2 1 = (if s.cfg = true then 1 else 0) ∧
    s.statusreg.extractLsb' 3 2 = (match s.phase with | .idle => 0 | .tx => 1 | .rx => 2) ∧
    s.statusreg.extractLsb' 5 4 = s.idx ∧
    s.result.extractLsb' 0 2 =
      (match s.rClass with | .wire => 0 | .error => 1 | .locl => 2 | .none => 3) ∧
    s.result.extractLsb' 2 16 = s.rCode ∧ s.result.extractLsb' 18 4 = s.rArg ∧
    s.result.extractLsb' 22 1 = (if s.rHasvalue = true then 1 else 0)

/- ## Several instances and the host (42_client.md R232, 60 R318, 43_motion_host.md) -/

/-- R232: an operation on a motor index outside the range ends with Local(MOTOR_INDEX) at the
selector and no instance sees it; one on a motor in range is presented to that motor's instance
alone. That the answer holds until the next operation, and that an event of an instance that does
not exist changes nothing, is log 32 (DESIGN CHOICE). -/
def Obligations.SelectorRejectsUnknownMotors : Prop :=
  ∀ (s : System) (m : Nat),
    (∀ e, s.motors.length ≤ m → ((∃ st, e = .present m st) ∨ ∃ op t, e = .host m op t) →
      s.step e = .next { s with selOut := some .motorIndex }) ∧
    (∀ e, s.motors.length ≤ m → (e = .run m ∨ (∃ i, e = .input m i) ∨ e = .poll m) →
      s.step e = .next s) ∧
    (∀ st x, s.motors[m]? = some x →
      s.step (.present m st) = .next { s with
        selOut := none, motors := s.motors.set m { x with vcf := { x.vcf with pend := some st } } })

/-- R318, R72: instances share nothing: an event of one motor, at its own transport or from the
host, leaves every other motor as it was. -/
def Obligations.InstancesShareNothing : Prop :=
  ∀ (s t : System) (m j : Nat) (e : SysEvent), s.step e = .next t → j ≠ m →
    (e = .run m ∨ (∃ i, e = .input m i) ∨ (∃ st, e = .present m st) ∨
      (∃ op w, e = .host m op w) ∨ e = .poll m) →
    t.motors[j]? = s.motors[j]? ∧ t.motors.length = s.motors.length

/-- What each host operation does first (R262 to R266). rotate (R264) issues rotate-right or
rotate-left with the magnitude, by direction and sign, and writes the bias; move_by_angle (R265)
issues a relative move by the truncated delta; move_to_angle (R266) issues the position read; stop
and reset_position (R262, R263) issue stop. A velocity or angle out of range issues nothing, keeps
the bias and is rejected. The model's choices in it, with the spec's own decisions: direction left
with a negative velocity (D28), the bias written at issue (D40), the timeout and A_COORD of the SEND
(log 24, DESIGN CHOICE); a delta outside 32 bits is refused (U12, log 24). -/
def Obligations.HostOperationsIssueTheirFirstCommand : Prop :=
  ∀ (steps : Int) (timeout : Word32) (m : Motor), m.job = none →
    (∀ v : Int, Motor.host steps (.rotate v) timeout m = .next (
      if v < -2049 ∨ 2049 < v then { m with ret := some (.rejected .velocity) }
      else { m with
        vcf := { m.vcf with
          aTimeout := timeout, aOp := 5
          aKind := if (m.dir = .right ∧ 0 ≤ v) ∨ (m.dir = .left ∧ v < 0) then 1 else 2
          aValue := BitVec.ofInt 32 |v|, pend := some .op }
        bias := if m.dir = .right then v else -v
        job := some .rotate, ret := none })) ∧
    (∀ angle : Int, Motor.host steps (.moveByAngle angle) timeout m =
      if angle < -360 ∨ 360 < angle then .next { m with ret := some (.rejected .angle) }
      else if Int.tdiv (angle * steps) 360 < -2147483648 ∨
          2147483647 < Int.tdiv (angle * steps) 360 then .refused .positionOverflow
      else .next { m with
        vcf := { m.vcf with
          aTimeout := timeout, aOp := 5, aKind := 3, aMvt := 1
          aValue := BitVec.ofInt 32 (Int.tdiv (angle * steps) 360), pend := some .op }
        job := some .moveBy, ret := none }) ∧
    (∀ angle : Int, Motor.host steps (.moveToAngle angle) timeout m = .next (
      if angle < -360 ∨ 360 < angle then { m with ret := some (.rejected .angle) }
      else { m with
        vcf := { m.vcf with
          aTimeout := timeout, aOp := 5, aKind := 4, aValue := 0, pend := some .op }
        job := some (.moveRead angle), ret := none })) ∧
    (∀ op job, op = .stop ∧ job = .stop ∨ op = .resetPosition ∧ job = .resetStop →
      Motor.host steps op timeout m = .next { m with
        vcf := { m.vcf with
          aTimeout := timeout, aOp := 5, aKind := 0, aValue := 0, pend := some .op }
        job := some job, ret := none })

/-- R268: directional consistency on the part of its domain where it holds. -/
def Obligations.MoveToAngleKeepsItsDirection : Prop :=
  ∀ steps bias current angle : Int, 0 < steps → 0 ≤ angle → angle ≤ 360 →
    (0 ≤ bias → Int.tdiv (angle * steps) 360 < Int.tmod current steps →
      current < moveTarget steps bias current angle) ∧
    (bias < 0 → Int.tmod current steps < Int.tdiv (angle * steps) 360 →
      Int.tdiv (angle * steps) 360 - steps < Int.tmod current steps →
      moveTarget steps bias current angle < current)

/-- R262, R263: once the stop has ended, with whatever outcome, the bias is 0; reset_position then
issues set-actual-position 0 and at its end returns both outcomes in order. R264 to R266: rotate and
the moves return the outcome of their SEND and keep the bias. That both outcomes are returned is the
spec's own decision (D41), the timeout kept for the second SEND log 24 (DESIGN CHOICE). The premise
is what a poll sees, DONE with the block idle and nothing pending; where the job's own SEND was
dropped by rst or taken down, that another operation's end is taken for it is log 33 (DESIGN CHOICE),
not R262 to R266. -/
def Obligations.StopAndResetPositionClearTheBias : Prop :=
  ∀ (steps : Int) (m : Motor), m.ended = true →
    (m.job = some .stop →
      m.poll steps =
        .next { m with bias := 0, job := none, ret := some (.one m.vcf.report) }) ∧
    (m.job = some .resetStop →
      m.poll steps = .next { m with
        vcf := { m.vcf with aOp := 5, aKind := 5, aValue := 0, pend := some .op }
        bias := 0, job := some (.resetSapos m.vcf.report), ret := none }) ∧
    (∀ r, m.job = some (.resetSapos r) →
      m.poll steps = .next { m with job := none, ret := some (.two r m.vcf.report) }) ∧
    (∀ j, j = .rotate ∨ j = .moveBy ∨ j = .moveAbs → m.job = some j →
      m.poll steps = .next { m with job := none, ret := some (.one m.vcf.report) })

/-- R266: move_to_angle goes on only after a read that ended with status 100; on any other outcome
no move is issued and the bias is kept. That the outcome returned is the failed read's own is the
spec's decision (D42), the timeout kept for the move and the refusal of a target outside 32 bits log
24 (DESIGN CHOICE, U12). Where the read itself was dropped by rst or taken down, that the report and
R_VALUE of another operation count as the read's is log 33 (DESIGN CHOICE), not R266. -/
def Obligations.MoveToAngleStopsOnAFailedRead : Prop :=
  ∀ (steps angle : Int) (m : Motor), m.ended = true → m.job = some (.moveRead angle) →
    (m.vcf.report ≠ .wire 100 →
      m.poll steps = .next { m with job := none, ret := some (.one m.vcf.report) }) ∧
    (m.vcf.report = .wire 100 → ∀ target : Int,
      target = moveTarget steps m.bias m.vcf.rValue.toInt angle →
      m.poll steps =
        if target < -2147483648 ∨ 2147483647 < target then .refused .positionOverflow
        else .next { m with
          vcf := { m.vcf with
            aOp := 5, aKind := 3, aMvt := 0, aValue := BitVec.ofInt 32 target, pend := some .op }
          job := some .moveAbs, ret := none })
end

