-- ==== Sys2Proof/Laws/Frame.lean ====
section
/-! SUPPORT. Reads after writes in a frame space (20_memory.md R61, R62, R65), and the shape of the
frame ENCODE makes. -/

namespace Sys2Proof

/-- Every offset 0 to 8 holds a byte. -/
theorem Frame.byteAt_some (f : Frame) (k : Nat) (h : k ≤ 8) : ∃ b, f.byteAt k = some b := by
  interval_cases k <;> exact ⟨_, rfl⟩

/-- No frame has an offset above 8. -/
theorem Frame.byteAt_none (f : Frame) (k : Nat) (h : 8 < k) : f.byteAt k = none := by
  unfold Frame.byteAt
  split <;> first | omega | rfl

/-- A byte reads back as written. -/
theorem Frame.byteAt_setByte_same (f : Frame) (k : Nat) (b : Byte) (h : k ≤ 8) :
    (f.setByte k b).byteAt k = some b := by
  interval_cases k <;> rfl

/-- A byte write leaves every other offset alone. -/
theorem Frame.byteAt_setByte_other (f : Frame) (k j : Nat) (b : Byte) (h : j ≠ k) :
    (f.setByte k b).byteAt j = f.byteAt j := by
  unfold Frame.setByte
  split <;> (unfold Frame.byteAt; split <;> first | rfl | omega)

/-- The bytes in offset order are the bytes at the offsets. -/
theorem Frame.toList_getElem (f : Frame) (k : Nat) : f.toList[k]? = f.byteAt k := by
  by_cases h : k ≤ 8
  · interval_cases k <;> rfl
  · rw [Frame.byteAt_none f k (by omega)]
    exact List.getElem?_eq_none (by simp only [Frame.toList, List.length_cons, List.length_nil]; omega)

@[simp] theorem Frame.toList_length (f : Frame) : f.toList.length = 9 := rfl

/-- Two frames with the same bytes are the same frame. -/
theorem Frame.toList_injective {f g : Frame} (h : f.toList = g.toList) : f = g := by
  cases f; cases g
  simp only [Frame.toList, List.cons.injEq] at h
  obtain ⟨rfl, rfl, rfl, rfl, rfl, rfl, rfl, rfl, rfl, -⟩ := h
  rfl

@[simp] theorem Frame.setValue_b0 (f : Frame) (v : Word32) : (f.setValue v).b0 = f.b0 := rfl
@[simp] theorem Frame.setValue_b1 (f : Frame) (v : Word32) : (f.setValue v).b1 = f.b1 := rfl
@[simp] theorem Frame.setValue_b2 (f : Frame) (v : Word32) : (f.setValue v).b2 = f.b2 := rfl
@[simp] theorem Frame.setValue_b3 (f : Frame) (v : Word32) : (f.setValue v).b3 = f.b3 := rfl
@[simp] theorem Frame.setValue_b8 (f : Frame) (v : Word32) : (f.setValue v).b8 = f.b8 := rfl

/-- The value bit by bit: bits 31:24 are offset 4, bits 7:0 offset 7 (R61, R62). -/
theorem Frame.value_getLsbD (f : Frame) (i : Nat) :
    f.value.getLsbD i =
      if i < 8 then f.b7.getLsbD i
      else if i < 16 then f.b6.getLsbD (i - 8)
      else if i < 24 then f.b5.getLsbD (i - 16)
      else f.b4.getLsbD (i - 24) := by
  have low := BitVec.getLsbD_append (x := f.b4 ++ f.b5 ++ f.b6) (y := f.b7) (i := i)
  have mid := BitVec.getLsbD_append (x := f.b4 ++ f.b5) (y := f.b6) (i := i - 8)
  have high := BitVec.getLsbD_append (x := f.b4) (y := f.b5) (i := i - 8 - 8)
  refine low.trans ?_
  rw [mid, high]
  have e1 : i - 8 < 8 ↔ i < 16 := by omega
  have e2 : i - 8 - 8 < 8 ↔ i < 24 := by omega
  simp only [e1, e2]
  simp only [Nat.sub_sub, Nat.reduceAdd]

/-- The value reads back as written, most significant byte first (R61). -/
@[simp] theorem Frame.value_setValue (f : Frame) (v : Word32) : (f.setValue v).value = v := by
  apply BitVec.eq_of_getLsbD_eq
  intro i hi
  rw [Frame.value_getLsbD]
  simp only [Frame.setValue, BitVec.getLsbD_extractLsb']
  split_ifs with h1 h2 h3
  · simp [h1]
  · rw [decide_eq_true (show i - 8 < 8 by omega), Bool.true_and]; congr 1; omega
  · rw [decide_eq_true (show i - 16 < 8 by omega), Bool.true_and]; congr 1; omega
  · rw [decide_eq_true (show i - 24 < 8 by omega), Bool.true_and]; congr 1; omega

/-- The value of a frame written back gives the frame (R62). -/
theorem Frame.setValue_value (f : Frame) : f.setValue f.value = f := by
  have split : f.value.extractLsb' 24 8 = f.b4 ∧ f.value.extractLsb' 16 8 = f.b5 ∧
      f.value.extractLsb' 8 8 = f.b6 ∧ f.value.extractLsb' 0 8 = f.b7 := by
    refine ⟨?_, ?_, ?_, ?_⟩ <;> apply BitVec.eq_of_getLsbD_eq <;> intro i hi <;>
      rw [BitVec.getLsbD_extractLsb', Frame.value_getLsbD, decide_eq_true hi, Bool.true_and]
    · rw [if_neg (by omega), if_neg (by omega), if_neg (by omega)]; congr 1; omega
    · rw [if_neg (by omega), if_neg (by omega), if_pos (by omega)]; congr 1; omega
    · rw [if_neg (by omega), if_pos (by omega)]; congr 1; omega
    · rw [if_pos (by omega)]; congr 1; omega
  obtain ⟨h4, h5, h6, h7⟩ := split
  simp only [Frame.setValue, h4, h5, h6, h7]

/-- Frames with the same single-byte fields and the same value are the same frame. -/
theorem Frame.ext_value {f g : Frame} (h0 : f.b0 = g.b0) (h1 : f.b1 = g.b1) (h2 : f.b2 = g.b2)
    (h3 : f.b3 = g.b3) (hv : f.value = g.value) (h8 : f.b8 = g.b8) : f = g := by
  calc f = f.setValue f.value := (Frame.setValue_value f).symm
    _ = f.setValue g.value := by rw [hv]
    _ = g.setValue g.value := by simp only [Frame.setValue, h0, h1, h2, h3, h8]
    _ = g := Frame.setValue_value g

@[simp] theorem encodeFrame_b0 (a c t m : Byte) (v : Word32) : (encodeFrame a c t m v).b0 = a := rfl
@[simp] theorem encodeFrame_b1 (a c t m : Byte) (v : Word32) : (encodeFrame a c t m v).b1 = c := rfl
@[simp] theorem encodeFrame_b2 (a c t m : Byte) (v : Word32) : (encodeFrame a c t m v).b2 = t := rfl
@[simp] theorem encodeFrame_b3 (a c t m : Byte) (v : Word32) : (encodeFrame a c t m v).b3 = m := rfl

/-- The value slot of the frame ENCODE makes (R142). -/
@[simp] theorem encodeFrame_value (a c t m : Byte) (v : Word32) :
    (encodeFrame a c t m v).value = v :=
  Frame.value_setValue ⟨a, c, t, m, 0, 0, 0, 0, 0⟩ v

/-- The frame ENCODE makes carries its own checksum (R142). -/
@[simp] theorem encodeFrame_valid (a c t m : Byte) (v : Word32) :
    (encodeFrame a c t m v).valid = true := by
  simp only [encodeFrame, Frame.valid, Frame.chk, beq_self_eq_true]

end Sys2Proof
end

