-- ==== Sys2Proof/Laws/Decode.lean ====
section
/-! SUPPORT. The fields of the frames the encoder writes, and the decoder on whole frames. -/

namespace Sys2Proof

@[simp] theorem cmdFrame_b0 (t : Template) (x : CmdFields) : (cmdFrame t x).b0 = x.address := rfl
@[simp] theorem cmdFrame_b1 (t : Template) (x : CmdFields) : (cmdFrame t x).b1 = t.cmd := rfl
@[simp] theorem cmdFrame_b2 (t : Template) (x : CmdFields) : (cmdFrame t x).b2 = t.typ := rfl
@[simp] theorem cmdFrame_b3 (t : Template) (x : CmdFields) : (cmdFrame t x).b3 = t.mot := rfl
@[simp] theorem cmdFrame_b8 (t : Template) (x : CmdFields) : (cmdFrame t x).b8 = x.checksum := rfl
@[simp] theorem cmdFrame_value (t : Template) (x : CmdFields) : (cmdFrame t x).value = x.value :=
  Frame.value_setValue ⟨x.address, t.cmd, t.typ, t.mot, 0, 0, 0, 0, 0⟩ x.value

@[simp] theorem rspFrame_b0 (b : Byte) (x : RspFields) : (rspFrame b x).b0 = x.address := rfl
@[simp] theorem rspFrame_b1 (b : Byte) (x : RspFields) : (rspFrame b x).b1 = x.moduleByte := rfl
@[simp] theorem rspFrame_b2 (b : Byte) (x : RspFields) : (rspFrame b x).b2 = b := rfl
@[simp] theorem rspFrame_b3 (b : Byte) (x : RspFields) : (rspFrame b x).b3 = x.command := rfl
@[simp] theorem rspFrame_b8 (b : Byte) (x : RspFields) : (rspFrame b x).b8 = x.checksum := rfl
@[simp] theorem rspFrame_value (b : Byte) (x : RspFields) : (rspFrame b x).value = x.value :=
  Frame.value_setValue ⟨x.address, x.moduleByte, b, x.command, 0, 0, 0, 0, 0⟩ x.value

/-- The variable fields of a command frame read back. -/
@[simp] theorem cmdFrame_cmdFields (t : Template) (x : CmdFields) :
    (cmdFrame t x).cmdFields = x := by
  simp only [Frame.cmdFields, cmdFrame_b0, cmdFrame_b8, cmdFrame_value]

/-- The variable fields of a response frame read back. -/
@[simp] theorem rspFrame_rspFields (b : Byte) (x : RspFields) :
    (rspFrame b x).rspFields = x := by
  simp only [Frame.rspFields, rspFrame_b0, rspFrame_b1, rspFrame_b3, rspFrame_b8, rspFrame_value]

/-- A frame that has a template is the command frame of that template and its own fields. -/
theorem cmdFrame_of_hasTemplate {f : Frame} {t : Template} (h : f.hasTemplate t = true) :
    cmdFrame t f.cmdFields = f := by
  simp only [Frame.hasTemplate, Bool.and_eq_true, beq_iff_eq] at h
  apply Frame.ext_value <;> simp [Frame.cmdFields, h.1.1, h.1.2, h.2]

/-- A frame is the response frame of its status byte and its own fields. -/
theorem rspFrame_rspFields_self (f : Frame) : rspFrame f.b2 f.rspFields = f := by
  apply Frame.ext_value <;> simp [Frame.rspFields]

/-- The decoder on the bytes of a whole frame, command side. -/
theorem decodeBytes_cmd (f : Frame) (rest : List Byte) :
    decodeBytes .cmd (f.toList ++ rest) = (decodeCmd f).map (·, rest) := rfl

/-- The decoder on the bytes of a whole frame, response side. -/
theorem decodeBytes_rsp (f : Frame) (rest : List Byte) :
    decodeBytes .rsp (f.toList ++ rest) = (decodeRsp f).map (·, rest) := rfl

end Sys2Proof
end

