-- ==== Sys2Proof/Laws/State.lean ====
section
/-! SUPPORT. One lemma per field per update of the named operations over State, true by unfolding
the operation once, so that no later proof unfolds a record update. -/

namespace Sys2Proof.Machine

@[simp] theorem setPc_devaddr (p : Phase) (i : BitVec 4) (s : State) : (s.setPc p i).devaddr = s.devaddr := rfl
@[simp] theorem setPc_cfg (p : Phase) (i : BitVec 4) (s : State) : (s.setPc p i).cfg = s.cfg := rfl
@[simp] theorem setPc_aOp (p : Phase) (i : BitVec 4) (s : State) : (s.setPc p i).aOp = s.aOp := rfl
@[simp] theorem setPc_aKind (p : Phase) (i : BitVec 4) (s : State) : (s.setPc p i).aKind = s.aKind := rfl
@[simp] theorem setPc_aAddr (p : Phase) (i : BitVec 4) (s : State) : (s.setPc p i).aAddr = s.aAddr := rfl
@[simp] theorem setPc_aCmd (p : Phase) (i : BitVec 4) (s : State) : (s.setPc p i).aCmd = s.aCmd := rfl
@[simp] theorem setPc_aType (p : Phase) (i : BitVec 4) (s : State) : (s.setPc p i).aType = s.aType := rfl
@[simp] theorem setPc_aMotor (p : Phase) (i : BitVec 4) (s : State) : (s.setPc p i).aMotor = s.aMotor := rfl
@[simp] theorem setPc_aValue (p : Phase) (i : BitVec 4) (s : State) : (s.setPc p i).aValue = s.aValue := rfl
@[simp] theorem setPc_aTimeout (p : Phase) (i : BitVec 4) (s : State) : (s.setPc p i).aTimeout = s.aTimeout := rfl
@[simp] theorem setPc_aMvt (p : Phase) (i : BitVec 4) (s : State) : (s.setPc p i).aMvt = s.aMvt := rfl
@[simp] theorem setPc_aCoord (p : Phase) (i : BitVec 4) (s : State) : (s.setPc p i).aCoord = s.aCoord := rfl
@[simp] theorem setPc_aFrame (p : Phase) (i : BitVec 4) (s : State) : (s.setPc p i).aFrame = s.aFrame := rfl
@[simp] theorem setPc_lOp (p : Phase) (i : BitVec 4) (s : State) : (s.setPc p i).lOp = s.lOp := rfl
@[simp] theorem setPc_lKind (p : Phase) (i : BitVec 4) (s : State) : (s.setPc p i).lKind = s.lKind := rfl
@[simp] theorem setPc_lLimit (p : Phase) (i : BitVec 4) (s : State) : (s.setPc p i).lLimit = s.lLimit := rfl
@[simp] theorem setPc_txbuf (p : Phase) (i : BitVec 4) (s : State) : (s.setPc p i).txbuf = s.txbuf := rfl
@[simp] theorem setPc_rxbuf (p : Phase) (i : BitVec 4) (s : State) : (s.setPc p i).rxbuf = s.rxbuf := rfl
@[simp] theorem setPc_phase (p : Phase) (i : BitVec 4) (s : State) : (s.setPc p i).phase = p := rfl
@[simp] theorem setPc_idx (p : Phase) (i : BitVec 4) (s : State) : (s.setPc p i).idx = i := rfl
@[simp] theorem setPc_timer (p : Phase) (i : BitVec 4) (s : State) : (s.setPc p i).timer = s.timer := rfl
@[simp] theorem setPc_done (p : Phase) (i : BitVec 4) (s : State) : (s.setPc p i).done = s.done := rfl
@[simp] theorem setPc_rClass (p : Phase) (i : BitVec 4) (s : State) : (s.setPc p i).rClass = s.rClass := rfl
@[simp] theorem setPc_rCode (p : Phase) (i : BitVec 4) (s : State) : (s.setPc p i).rCode = s.rCode := rfl
@[simp] theorem setPc_rArg (p : Phase) (i : BitVec 4) (s : State) : (s.setPc p i).rArg = s.rArg := rfl
@[simp] theorem setPc_rFrame (p : Phase) (i : BitVec 4) (s : State) : (s.setPc p i).rFrame = s.rFrame := rfl
@[simp] theorem setPc_rValue (p : Phase) (i : BitVec 4) (s : State) : (s.setPc p i).rValue = s.rValue := rfl
@[simp] theorem setPc_rHasvalue (p : Phase) (i : BitVec 4) (s : State) : (s.setPc p i).rHasvalue = s.rHasvalue := rfl
@[simp] theorem setPc_dAddress (p : Phase) (i : BitVec 4) (s : State) : (s.setPc p i).dAddress = s.dAddress := rfl
@[simp] theorem setPc_dModule (p : Phase) (i : BitVec 4) (s : State) : (s.setPc p i).dModule = s.dModule := rfl
@[simp] theorem setPc_dStatus (p : Phase) (i : BitVec 4) (s : State) : (s.setPc p i).dStatus = s.dStatus := rfl
@[simp] theorem setPc_dCmd (p : Phase) (i : BitVec 4) (s : State) : (s.setPc p i).dCmd = s.dCmd := rfl
@[simp] theorem setPc_dValue (p : Phase) (i : BitVec 4) (s : State) : (s.setPc p i).dValue = s.dValue := rfl
@[simp] theorem setPc_dValid (p : Phase) (i : BitVec 4) (s : State) : (s.setPc p i).dValid = s.dValid := rfl
@[simp] theorem setPc_tpl (p : Phase) (i : BitVec 4) (s : State) : (s.setPc p i).tpl = s.tpl := rfl
@[simp] theorem setPc_txs (p : Phase) (i : BitVec 4) (s : State) : (s.setPc p i).txs = s.txs := rfl
@[simp] theorem setPc_rxs (p : Phase) (i : BitVec 4) (s : State) : (s.setPc p i).rxs = s.rxs := rfl
@[simp] theorem setPc_rxq (p : Phase) (i : BitVec 4) (s : State) : (s.setPc p i).rxq = s.rxq := rfl
@[simp] theorem setPc_linkUp (p : Phase) (i : BitVec 4) (s : State) : (s.setPc p i).linkUp = s.linkUp := rfl
@[simp] theorem setPc_pend (p : Phase) (i : BitVec 4) (s : State) : (s.setPc p i).pend = s.pend := rfl
@[simp] theorem setPc_inputs (p : Phase) (i : BitVec 4) (s : State) : (s.setPc p i).inputs = s.inputs := rfl
@[simp] theorem setPc_fresh (p : Phase) (i : BitVec 4) (s : State) : (s.setPc p i).fresh = s.fresh := rfl
@[simp] theorem setPc_inst (p : Phase) (i : BitVec 4) (s : State) : (s.setPc p i).inst = s.inst := rfl

@[simp] theorem latchOp_devaddr (op : BitVec 3) (s : State) : (latchOp op s).devaddr = s.devaddr := rfl
@[simp] theorem latchOp_cfg (op : BitVec 3) (s : State) : (latchOp op s).cfg = s.cfg := rfl
@[simp] theorem latchOp_aOp (op : BitVec 3) (s : State) : (latchOp op s).aOp = s.aOp := rfl
@[simp] theorem latchOp_aKind (op : BitVec 3) (s : State) : (latchOp op s).aKind = s.aKind := rfl
@[simp] theorem latchOp_aAddr (op : BitVec 3) (s : State) : (latchOp op s).aAddr = s.aAddr := rfl
@[simp] theorem latchOp_aCmd (op : BitVec 3) (s : State) : (latchOp op s).aCmd = s.aCmd := rfl
@[simp] theorem latchOp_aType (op : BitVec 3) (s : State) : (latchOp op s).aType = s.aType := rfl
@[simp] theorem latchOp_aMotor (op : BitVec 3) (s : State) : (latchOp op s).aMotor = s.aMotor := rfl
@[simp] theorem latchOp_aValue (op : BitVec 3) (s : State) : (latchOp op s).aValue = s.aValue := rfl
@[simp] theorem latchOp_aTimeout (op : BitVec 3) (s : State) : (latchOp op s).aTimeout = s.aTimeout := rfl
@[simp] theorem latchOp_aMvt (op : BitVec 3) (s : State) : (latchOp op s).aMvt = s.aMvt := rfl
@[simp] theorem latchOp_aCoord (op : BitVec 3) (s : State) : (latchOp op s).aCoord = s.aCoord := rfl
@[simp] theorem latchOp_aFrame (op : BitVec 3) (s : State) : (latchOp op s).aFrame = s.aFrame := rfl
@[simp] theorem latchOp_lOp (op : BitVec 3) (s : State) : (latchOp op s).lOp = op := rfl
@[simp] theorem latchOp_lKind (op : BitVec 3) (s : State) : (latchOp op s).lKind = s.lKind := rfl
@[simp] theorem latchOp_lLimit (op : BitVec 3) (s : State) : (latchOp op s).lLimit = s.lLimit := rfl
@[simp] theorem latchOp_txbuf (op : BitVec 3) (s : State) : (latchOp op s).txbuf = s.txbuf := rfl
@[simp] theorem latchOp_rxbuf (op : BitVec 3) (s : State) : (latchOp op s).rxbuf = s.rxbuf := rfl
@[simp] theorem latchOp_phase (op : BitVec 3) (s : State) : (latchOp op s).phase = s.phase := rfl
@[simp] theorem latchOp_idx (op : BitVec 3) (s : State) : (latchOp op s).idx = s.idx := rfl
@[simp] theorem latchOp_timer (op : BitVec 3) (s : State) : (latchOp op s).timer = s.timer := rfl
@[simp] theorem latchOp_done (op : BitVec 3) (s : State) : (latchOp op s).done = false := rfl
@[simp] theorem latchOp_rClass (op : BitVec 3) (s : State) : (latchOp op s).rClass = s.rClass := rfl
@[simp] theorem latchOp_rCode (op : BitVec 3) (s : State) : (latchOp op s).rCode = s.rCode := rfl
@[simp] theorem latchOp_rArg (op : BitVec 3) (s : State) : (latchOp op s).rArg = s.rArg := rfl
@[simp] theorem latchOp_rFrame (op : BitVec 3) (s : State) : (latchOp op s).rFrame = s.rFrame := rfl
@[simp] theorem latchOp_rValue (op : BitVec 3) (s : State) : (latchOp op s).rValue = s.rValue := rfl
@[simp] theorem latchOp_rHasvalue (op : BitVec 3) (s : State) : (latchOp op s).rHasvalue = s.rHasvalue := rfl
@[simp] theorem latchOp_dAddress (op : BitVec 3) (s : State) : (latchOp op s).dAddress = s.dAddress := rfl
@[simp] theorem latchOp_dModule (op : BitVec 3) (s : State) : (latchOp op s).dModule = s.dModule := rfl
@[simp] theorem latchOp_dStatus (op : BitVec 3) (s : State) : (latchOp op s).dStatus = s.dStatus := rfl
@[simp] theorem latchOp_dCmd (op : BitVec 3) (s : State) : (latchOp op s).dCmd = s.dCmd := rfl
@[simp] theorem latchOp_dValue (op : BitVec 3) (s : State) : (latchOp op s).dValue = s.dValue := rfl
@[simp] theorem latchOp_dValid (op : BitVec 3) (s : State) : (latchOp op s).dValid = s.dValid := rfl
@[simp] theorem latchOp_tpl (op : BitVec 3) (s : State) : (latchOp op s).tpl = s.tpl := rfl
@[simp] theorem latchOp_txs (op : BitVec 3) (s : State) : (latchOp op s).txs = s.txs := rfl
@[simp] theorem latchOp_rxs (op : BitVec 3) (s : State) : (latchOp op s).rxs = s.rxs := rfl
@[simp] theorem latchOp_rxq (op : BitVec 3) (s : State) : (latchOp op s).rxq = s.rxq := rfl
@[simp] theorem latchOp_linkUp (op : BitVec 3) (s : State) : (latchOp op s).linkUp = s.linkUp := rfl
@[simp] theorem latchOp_pend (op : BitVec 3) (s : State) : (latchOp op s).pend = s.pend := rfl
@[simp] theorem latchOp_inputs (op : BitVec 3) (s : State) : (latchOp op s).inputs = s.inputs := rfl
@[simp] theorem latchOp_fresh (op : BitVec 3) (s : State) : (latchOp op s).fresh = s.fresh := rfl
@[simp] theorem latchOp_inst (op : BitVec 3) (s : State) : (latchOp op s).inst = s.inst := rfl

@[simp] theorem latchKind_devaddr (op : BitVec 3) (k : BitVec 5) (s : State) : (latchKind op k s).devaddr = s.devaddr := rfl
@[simp] theorem latchKind_cfg (op : BitVec 3) (k : BitVec 5) (s : State) : (latchKind op k s).cfg = s.cfg := rfl
@[simp] theorem latchKind_aOp (op : BitVec 3) (k : BitVec 5) (s : State) : (latchKind op k s).aOp = s.aOp := rfl
@[simp] theorem latchKind_aKind (op : BitVec 3) (k : BitVec 5) (s : State) : (latchKind op k s).aKind = s.aKind := rfl
@[simp] theorem latchKind_aAddr (op : BitVec 3) (k : BitVec 5) (s : State) : (latchKind op k s).aAddr = s.aAddr := rfl
@[simp] theorem latchKind_aCmd (op : BitVec 3) (k : BitVec 5) (s : State) : (latchKind op k s).aCmd = s.aCmd := rfl
@[simp] theorem latchKind_aType (op : BitVec 3) (k : BitVec 5) (s : State) : (latchKind op k s).aType = s.aType := rfl
@[simp] theorem latchKind_aMotor (op : BitVec 3) (k : BitVec 5) (s : State) : (latchKind op k s).aMotor = s.aMotor := rfl
@[simp] theorem latchKind_aValue (op : BitVec 3) (k : BitVec 5) (s : State) : (latchKind op k s).aValue = s.aValue := rfl
@[simp] theorem latchKind_aTimeout (op : BitVec 3) (k : BitVec 5) (s : State) : (latchKind op k s).aTimeout = s.aTimeout := rfl
@[simp] theorem latchKind_aMvt (op : BitVec 3) (k : BitVec 5) (s : State) : (latchKind op k s).aMvt = s.aMvt := rfl
@[simp] theorem latchKind_aCoord (op : BitVec 3) (k : BitVec 5) (s : State) : (latchKind op k s).aCoord = s.aCoord := rfl
@[simp] theorem latchKind_aFrame (op : BitVec 3) (k : BitVec 5) (s : State) : (latchKind op k s).aFrame = s.aFrame := rfl
@[simp] theorem latchKind_lOp (op : BitVec 3) (k : BitVec 5) (s : State) : (latchKind op k s).lOp = op := rfl
@[simp] theorem latchKind_lKind (op : BitVec 3) (k : BitVec 5) (s : State) : (latchKind op k s).lKind = k := rfl
@[simp] theorem latchKind_lLimit (op : BitVec 3) (k : BitVec 5) (s : State) : (latchKind op k s).lLimit = s.lLimit := rfl
@[simp] theorem latchKind_txbuf (op : BitVec 3) (k : BitVec 5) (s : State) : (latchKind op k s).txbuf = s.txbuf := rfl
@[simp] theorem latchKind_rxbuf (op : BitVec 3) (k : BitVec 5) (s : State) : (latchKind op k s).rxbuf = s.rxbuf := rfl
@[simp] theorem latchKind_phase (op : BitVec 3) (k : BitVec 5) (s : State) : (latchKind op k s).phase = s.phase := rfl
@[simp] theorem latchKind_idx (op : BitVec 3) (k : BitVec 5) (s : State) : (latchKind op k s).idx = s.idx := rfl
@[simp] theorem latchKind_timer (op : BitVec 3) (k : BitVec 5) (s : State) : (latchKind op k s).timer = s.timer := rfl
@[simp] theorem latchKind_done (op : BitVec 3) (k : BitVec 5) (s : State) : (latchKind op k s).done = false := rfl
@[simp] theorem latchKind_rClass (op : BitVec 3) (k : BitVec 5) (s : State) : (latchKind op k s).rClass = s.rClass := rfl
@[simp] theorem latchKind_rCode (op : BitVec 3) (k : BitVec 5) (s : State) : (latchKind op k s).rCode = s.rCode := rfl
@[simp] theorem latchKind_rArg (op : BitVec 3) (k : BitVec 5) (s : State) : (latchKind op k s).rArg = s.rArg := rfl
@[simp] theorem latchKind_rFrame (op : BitVec 3) (k : BitVec 5) (s : State) : (latchKind op k s).rFrame = s.rFrame := rfl
@[simp] theorem latchKind_rValue (op : BitVec 3) (k : BitVec 5) (s : State) : (latchKind op k s).rValue = s.rValue := rfl
@[simp] theorem latchKind_rHasvalue (op : BitVec 3) (k : BitVec 5) (s : State) : (latchKind op k s).rHasvalue = s.rHasvalue := rfl
@[simp] theorem latchKind_dAddress (op : BitVec 3) (k : BitVec 5) (s : State) : (latchKind op k s).dAddress = s.dAddress := rfl
@[simp] theorem latchKind_dModule (op : BitVec 3) (k : BitVec 5) (s : State) : (latchKind op k s).dModule = s.dModule := rfl
@[simp] theorem latchKind_dStatus (op : BitVec 3) (k : BitVec 5) (s : State) : (latchKind op k s).dStatus = s.dStatus := rfl
@[simp] theorem latchKind_dCmd (op : BitVec 3) (k : BitVec 5) (s : State) : (latchKind op k s).dCmd = s.dCmd := rfl
@[simp] theorem latchKind_dValue (op : BitVec 3) (k : BitVec 5) (s : State) : (latchKind op k s).dValue = s.dValue := rfl
@[simp] theorem latchKind_dValid (op : BitVec 3) (k : BitVec 5) (s : State) : (latchKind op k s).dValid = s.dValid := rfl
@[simp] theorem latchKind_tpl (op : BitVec 3) (k : BitVec 5) (s : State) : (latchKind op k s).tpl = s.tpl := rfl
@[simp] theorem latchKind_txs (op : BitVec 3) (k : BitVec 5) (s : State) : (latchKind op k s).txs = s.txs := rfl
@[simp] theorem latchKind_rxs (op : BitVec 3) (k : BitVec 5) (s : State) : (latchKind op k s).rxs = s.rxs := rfl
@[simp] theorem latchKind_rxq (op : BitVec 3) (k : BitVec 5) (s : State) : (latchKind op k s).rxq = s.rxq := rfl
@[simp] theorem latchKind_linkUp (op : BitVec 3) (k : BitVec 5) (s : State) : (latchKind op k s).linkUp = s.linkUp := rfl
@[simp] theorem latchKind_pend (op : BitVec 3) (k : BitVec 5) (s : State) : (latchKind op k s).pend = s.pend := rfl
@[simp] theorem latchKind_inputs (op : BitVec 3) (k : BitVec 5) (s : State) : (latchKind op k s).inputs = s.inputs := rfl
@[simp] theorem latchKind_fresh (op : BitVec 3) (k : BitVec 5) (s : State) : (latchKind op k s).fresh = s.fresh := rfl
@[simp] theorem latchKind_inst (op : BitVec 3) (k : BitVec 5) (s : State) : (latchKind op k s).inst = s.inst := rfl

@[simp] theorem latchLimit_devaddr (op : BitVec 3) (s : State) : (latchLimit op s).devaddr = s.devaddr := rfl
@[simp] theorem latchLimit_cfg (op : BitVec 3) (s : State) : (latchLimit op s).cfg = s.cfg := rfl
@[simp] theorem latchLimit_aOp (op : BitVec 3) (s : State) : (latchLimit op s).aOp = s.aOp := rfl
@[simp] theorem latchLimit_aKind (op : BitVec 3) (s : State) : (latchLimit op s).aKind = s.aKind := rfl
@[simp] theorem latchLimit_aAddr (op : BitVec 3) (s : State) : (latchLimit op s).aAddr = s.aAddr := rfl
@[simp] theorem latchLimit_aCmd (op : BitVec 3) (s : State) : (latchLimit op s).aCmd = s.aCmd := rfl
@[simp] theorem latchLimit_aType (op : BitVec 3) (s : State) : (latchLimit op s).aType = s.aType := rfl
@[simp] theorem latchLimit_aMotor (op : BitVec 3) (s : State) : (latchLimit op s).aMotor = s.aMotor := rfl
@[simp] theorem latchLimit_aValue (op : BitVec 3) (s : State) : (latchLimit op s).aValue = s.aValue := rfl
@[simp] theorem latchLimit_aTimeout (op : BitVec 3) (s : State) : (latchLimit op s).aTimeout = s.aTimeout := rfl
@[simp] theorem latchLimit_aMvt (op : BitVec 3) (s : State) : (latchLimit op s).aMvt = s.aMvt := rfl
@[simp] theorem latchLimit_aCoord (op : BitVec 3) (s : State) : (latchLimit op s).aCoord = s.aCoord := rfl
@[simp] theorem latchLimit_aFrame (op : BitVec 3) (s : State) : (latchLimit op s).aFrame = s.aFrame := rfl
@[simp] theorem latchLimit_lOp (op : BitVec 3) (s : State) : (latchLimit op s).lOp = op := rfl
@[simp] theorem latchLimit_lKind (op : BitVec 3) (s : State) : (latchLimit op s).lKind = s.lKind := rfl
@[simp] theorem latchLimit_lLimit (op : BitVec 3) (s : State) : (latchLimit op s).lLimit = s.aTimeout := rfl
@[simp] theorem latchLimit_txbuf (op : BitVec 3) (s : State) : (latchLimit op s).txbuf = s.txbuf := rfl
@[simp] theorem latchLimit_rxbuf (op : BitVec 3) (s : State) : (latchLimit op s).rxbuf = s.rxbuf := rfl
@[simp] theorem latchLimit_phase (op : BitVec 3) (s : State) : (latchLimit op s).phase = s.phase := rfl
@[simp] theorem latchLimit_idx (op : BitVec 3) (s : State) : (latchLimit op s).idx = s.idx := rfl
@[simp] theorem latchLimit_timer (op : BitVec 3) (s : State) : (latchLimit op s).timer = s.timer := rfl
@[simp] theorem latchLimit_done (op : BitVec 3) (s : State) : (latchLimit op s).done = false := rfl
@[simp] theorem latchLimit_rClass (op : BitVec 3) (s : State) : (latchLimit op s).rClass = s.rClass := rfl
@[simp] theorem latchLimit_rCode (op : BitVec 3) (s : State) : (latchLimit op s).rCode = s.rCode := rfl
@[simp] theorem latchLimit_rArg (op : BitVec 3) (s : State) : (latchLimit op s).rArg = s.rArg := rfl
@[simp] theorem latchLimit_rFrame (op : BitVec 3) (s : State) : (latchLimit op s).rFrame = s.rFrame := rfl
@[simp] theorem latchLimit_rValue (op : BitVec 3) (s : State) : (latchLimit op s).rValue = s.rValue := rfl
@[simp] theorem latchLimit_rHasvalue (op : BitVec 3) (s : State) : (latchLimit op s).rHasvalue = s.rHasvalue := rfl
@[simp] theorem latchLimit_dAddress (op : BitVec 3) (s : State) : (latchLimit op s).dAddress = s.dAddress := rfl
@[simp] theorem latchLimit_dModule (op : BitVec 3) (s : State) : (latchLimit op s).dModule = s.dModule := rfl
@[simp] theorem latchLimit_dStatus (op : BitVec 3) (s : State) : (latchLimit op s).dStatus = s.dStatus := rfl
@[simp] theorem latchLimit_dCmd (op : BitVec 3) (s : State) : (latchLimit op s).dCmd = s.dCmd := rfl
@[simp] theorem latchLimit_dValue (op : BitVec 3) (s : State) : (latchLimit op s).dValue = s.dValue := rfl
@[simp] theorem latchLimit_dValid (op : BitVec 3) (s : State) : (latchLimit op s).dValid = s.dValid := rfl
@[simp] theorem latchLimit_tpl (op : BitVec 3) (s : State) : (latchLimit op s).tpl = s.tpl := rfl
@[simp] theorem latchLimit_txs (op : BitVec 3) (s : State) : (latchLimit op s).txs = s.txs := rfl
@[simp] theorem latchLimit_rxs (op : BitVec 3) (s : State) : (latchLimit op s).rxs = s.rxs := rfl
@[simp] theorem latchLimit_rxq (op : BitVec 3) (s : State) : (latchLimit op s).rxq = s.rxq := rfl
@[simp] theorem latchLimit_linkUp (op : BitVec 3) (s : State) : (latchLimit op s).linkUp = s.linkUp := rfl
@[simp] theorem latchLimit_pend (op : BitVec 3) (s : State) : (latchLimit op s).pend = s.pend := rfl
@[simp] theorem latchLimit_inputs (op : BitVec 3) (s : State) : (latchLimit op s).inputs = s.inputs := rfl
@[simp] theorem latchLimit_fresh (op : BitVec 3) (s : State) : (latchLimit op s).fresh = s.fresh := rfl
@[simp] theorem latchLimit_inst (op : BitVec 3) (s : State) : (latchLimit op s).inst = s.inst := rfl

@[simp] theorem latchSend_devaddr (k : BitVec 5) (s : State) : (latchSend k s).devaddr = s.devaddr := rfl
@[simp] theorem latchSend_cfg (k : BitVec 5) (s : State) : (latchSend k s).cfg = s.cfg := rfl
@[simp] theorem latchSend_aOp (k : BitVec 5) (s : State) : (latchSend k s).aOp = s.aOp := rfl
@[simp] theorem latchSend_aKind (k : BitVec 5) (s : State) : (latchSend k s).aKind = s.aKind := rfl
@[simp] theorem latchSend_aAddr (k : BitVec 5) (s : State) : (latchSend k s).aAddr = s.aAddr := rfl
@[simp] theorem latchSend_aCmd (k : BitVec 5) (s : State) : (latchSend k s).aCmd = s.aCmd := rfl
@[simp] theorem latchSend_aType (k : BitVec 5) (s : State) : (latchSend k s).aType = s.aType := rfl
@[simp] theorem latchSend_aMotor (k : BitVec 5) (s : State) : (latchSend k s).aMotor = s.aMotor := rfl
@[simp] theorem latchSend_aValue (k : BitVec 5) (s : State) : (latchSend k s).aValue = s.aValue := rfl
@[simp] theorem latchSend_aTimeout (k : BitVec 5) (s : State) : (latchSend k s).aTimeout = s.aTimeout := rfl
@[simp] theorem latchSend_aMvt (k : BitVec 5) (s : State) : (latchSend k s).aMvt = s.aMvt := rfl
@[simp] theorem latchSend_aCoord (k : BitVec 5) (s : State) : (latchSend k s).aCoord = s.aCoord := rfl
@[simp] theorem latchSend_aFrame (k : BitVec 5) (s : State) : (latchSend k s).aFrame = s.aFrame := rfl
@[simp] theorem latchSend_lOp (k : BitVec 5) (s : State) : (latchSend k s).lOp = 5 := rfl
@[simp] theorem latchSend_lKind (k : BitVec 5) (s : State) : (latchSend k s).lKind = k := rfl
@[simp] theorem latchSend_lLimit (k : BitVec 5) (s : State) : (latchSend k s).lLimit = s.aTimeout := rfl
@[simp] theorem latchSend_txbuf (k : BitVec 5) (s : State) : (latchSend k s).txbuf = s.txbuf := rfl
@[simp] theorem latchSend_rxbuf (k : BitVec 5) (s : State) : (latchSend k s).rxbuf = s.rxbuf := rfl
@[simp] theorem latchSend_phase (k : BitVec 5) (s : State) : (latchSend k s).phase = s.phase := rfl
@[simp] theorem latchSend_idx (k : BitVec 5) (s : State) : (latchSend k s).idx = s.idx := rfl
@[simp] theorem latchSend_timer (k : BitVec 5) (s : State) : (latchSend k s).timer = s.timer := rfl
@[simp] theorem latchSend_done (k : BitVec 5) (s : State) : (latchSend k s).done = false := rfl
@[simp] theorem latchSend_rClass (k : BitVec 5) (s : State) : (latchSend k s).rClass = s.rClass := rfl
@[simp] theorem latchSend_rCode (k : BitVec 5) (s : State) : (latchSend k s).rCode = s.rCode := rfl
@[simp] theorem latchSend_rArg (k : BitVec 5) (s : State) : (latchSend k s).rArg = s.rArg := rfl
@[simp] theorem latchSend_rFrame (k : BitVec 5) (s : State) : (latchSend k s).rFrame = s.rFrame := rfl
@[simp] theorem latchSend_rValue (k : BitVec 5) (s : State) : (latchSend k s).rValue = s.rValue := rfl
@[simp] theorem latchSend_rHasvalue (k : BitVec 5) (s : State) : (latchSend k s).rHasvalue = s.rHasvalue := rfl
@[simp] theorem latchSend_dAddress (k : BitVec 5) (s : State) : (latchSend k s).dAddress = s.dAddress := rfl
@[simp] theorem latchSend_dModule (k : BitVec 5) (s : State) : (latchSend k s).dModule = s.dModule := rfl
@[simp] theorem latchSend_dStatus (k : BitVec 5) (s : State) : (latchSend k s).dStatus = s.dStatus := rfl
@[simp] theorem latchSend_dCmd (k : BitVec 5) (s : State) : (latchSend k s).dCmd = s.dCmd := rfl
@[simp] theorem latchSend_dValue (k : BitVec 5) (s : State) : (latchSend k s).dValue = s.dValue := rfl
@[simp] theorem latchSend_dValid (k : BitVec 5) (s : State) : (latchSend k s).dValid = s.dValid := rfl
@[simp] theorem latchSend_tpl (k : BitVec 5) (s : State) : (latchSend k s).tpl = s.tpl := rfl
@[simp] theorem latchSend_txs (k : BitVec 5) (s : State) : (latchSend k s).txs = s.txs := rfl
@[simp] theorem latchSend_rxs (k : BitVec 5) (s : State) : (latchSend k s).rxs = s.rxs := rfl
@[simp] theorem latchSend_rxq (k : BitVec 5) (s : State) : (latchSend k s).rxq = s.rxq := rfl
@[simp] theorem latchSend_linkUp (k : BitVec 5) (s : State) : (latchSend k s).linkUp = s.linkUp := rfl
@[simp] theorem latchSend_pend (k : BitVec 5) (s : State) : (latchSend k s).pend = s.pend := rfl
@[simp] theorem latchSend_inputs (k : BitVec 5) (s : State) : (latchSend k s).inputs = s.inputs := rfl
@[simp] theorem latchSend_fresh (k : BitVec 5) (s : State) : (latchSend k s).fresh = s.fresh := rfl
@[simp] theorem latchSend_inst (k : BitVec 5) (s : State) : (latchSend k s).inst = s.inst := rfl

@[simp] theorem writeDecode_devaddr (f : Frame) (s : State) : (writeDecode f s).devaddr = s.devaddr := rfl
@[simp] theorem writeDecode_cfg (f : Frame) (s : State) : (writeDecode f s).cfg = s.cfg := rfl
@[simp] theorem writeDecode_aOp (f : Frame) (s : State) : (writeDecode f s).aOp = s.aOp := rfl
@[simp] theorem writeDecode_aKind (f : Frame) (s : State) : (writeDecode f s).aKind = s.aKind := rfl
@[simp] theorem writeDecode_aAddr (f : Frame) (s : State) : (writeDecode f s).aAddr = s.aAddr := rfl
@[simp] theorem writeDecode_aCmd (f : Frame) (s : State) : (writeDecode f s).aCmd = s.aCmd := rfl
@[simp] theorem writeDecode_aType (f : Frame) (s : State) : (writeDecode f s).aType = s.aType := rfl
@[simp] theorem writeDecode_aMotor (f : Frame) (s : State) : (writeDecode f s).aMotor = s.aMotor := rfl
@[simp] theorem writeDecode_aValue (f : Frame) (s : State) : (writeDecode f s).aValue = s.aValue := rfl
@[simp] theorem writeDecode_aTimeout (f : Frame) (s : State) : (writeDecode f s).aTimeout = s.aTimeout := rfl
@[simp] theorem writeDecode_aMvt (f : Frame) (s : State) : (writeDecode f s).aMvt = s.aMvt := rfl
@[simp] theorem writeDecode_aCoord (f : Frame) (s : State) : (writeDecode f s).aCoord = s.aCoord := rfl
@[simp] theorem writeDecode_aFrame (f : Frame) (s : State) : (writeDecode f s).aFrame = s.aFrame := rfl
@[simp] theorem writeDecode_lOp (f : Frame) (s : State) : (writeDecode f s).lOp = s.lOp := rfl
@[simp] theorem writeDecode_lKind (f : Frame) (s : State) : (writeDecode f s).lKind = s.lKind := rfl
@[simp] theorem writeDecode_lLimit (f : Frame) (s : State) : (writeDecode f s).lLimit = s.lLimit := rfl
@[simp] theorem writeDecode_txbuf (f : Frame) (s : State) : (writeDecode f s).txbuf = s.txbuf := rfl
@[simp] theorem writeDecode_rxbuf (f : Frame) (s : State) : (writeDecode f s).rxbuf = s.rxbuf := rfl
@[simp] theorem writeDecode_phase (f : Frame) (s : State) : (writeDecode f s).phase = s.phase := rfl
@[simp] theorem writeDecode_idx (f : Frame) (s : State) : (writeDecode f s).idx = s.idx := rfl
@[simp] theorem writeDecode_timer (f : Frame) (s : State) : (writeDecode f s).timer = s.timer := rfl
@[simp] theorem writeDecode_done (f : Frame) (s : State) : (writeDecode f s).done = s.done := rfl
@[simp] theorem writeDecode_rClass (f : Frame) (s : State) : (writeDecode f s).rClass = s.rClass := rfl
@[simp] theorem writeDecode_rCode (f : Frame) (s : State) : (writeDecode f s).rCode = s.rCode := rfl
@[simp] theorem writeDecode_rArg (f : Frame) (s : State) : (writeDecode f s).rArg = s.rArg := rfl
@[simp] theorem writeDecode_rFrame (f : Frame) (s : State) : (writeDecode f s).rFrame = s.rFrame := rfl
@[simp] theorem writeDecode_rValue (f : Frame) (s : State) : (writeDecode f s).rValue = s.rValue := rfl
@[simp] theorem writeDecode_rHasvalue (f : Frame) (s : State) : (writeDecode f s).rHasvalue = s.rHasvalue := rfl
@[simp] theorem writeDecode_dAddress (f : Frame) (s : State) : (writeDecode f s).dAddress = f.b0 := rfl
@[simp] theorem writeDecode_dModule (f : Frame) (s : State) : (writeDecode f s).dModule = f.b1 := rfl
@[simp] theorem writeDecode_dStatus (f : Frame) (s : State) : (writeDecode f s).dStatus = f.b2 := rfl
@[simp] theorem writeDecode_dCmd (f : Frame) (s : State) : (writeDecode f s).dCmd = f.b3 := rfl
@[simp] theorem writeDecode_dValue (f : Frame) (s : State) : (writeDecode f s).dValue = f.value := rfl
@[simp] theorem writeDecode_dValid (f : Frame) (s : State) : (writeDecode f s).dValid = f.valid := rfl
@[simp] theorem writeDecode_tpl (f : Frame) (s : State) : (writeDecode f s).tpl = s.tpl := rfl
@[simp] theorem writeDecode_txs (f : Frame) (s : State) : (writeDecode f s).txs = s.txs := rfl
@[simp] theorem writeDecode_rxs (f : Frame) (s : State) : (writeDecode f s).rxs = s.rxs := rfl
@[simp] theorem writeDecode_rxq (f : Frame) (s : State) : (writeDecode f s).rxq = s.rxq := rfl
@[simp] theorem writeDecode_linkUp (f : Frame) (s : State) : (writeDecode f s).linkUp = s.linkUp := rfl
@[simp] theorem writeDecode_pend (f : Frame) (s : State) : (writeDecode f s).pend = s.pend := rfl
@[simp] theorem writeDecode_inputs (f : Frame) (s : State) : (writeDecode f s).inputs = s.inputs := rfl
@[simp] theorem writeDecode_fresh (f : Frame) (s : State) : (writeDecode f s).fresh = s.fresh := rfl
@[simp] theorem writeDecode_inst (f : Frame) (s : State) : (writeDecode f s).inst = s.inst := rfl

@[simp] theorem withdraw_devaddr (s : State) : (withdraw s).devaddr = s.devaddr := rfl
@[simp] theorem withdraw_cfg (s : State) : (withdraw s).cfg = s.cfg := rfl
@[simp] theorem withdraw_aOp (s : State) : (withdraw s).aOp = s.aOp := rfl
@[simp] theorem withdraw_aKind (s : State) : (withdraw s).aKind = s.aKind := rfl
@[simp] theorem withdraw_aAddr (s : State) : (withdraw s).aAddr = s.aAddr := rfl
@[simp] theorem withdraw_aCmd (s : State) : (withdraw s).aCmd = s.aCmd := rfl
@[simp] theorem withdraw_aType (s : State) : (withdraw s).aType = s.aType := rfl
@[simp] theorem withdraw_aMotor (s : State) : (withdraw s).aMotor = s.aMotor := rfl
@[simp] theorem withdraw_aValue (s : State) : (withdraw s).aValue = s.aValue := rfl
@[simp] theorem withdraw_aTimeout (s : State) : (withdraw s).aTimeout = s.aTimeout := rfl
@[simp] theorem withdraw_aMvt (s : State) : (withdraw s).aMvt = s.aMvt := rfl
@[simp] theorem withdraw_aCoord (s : State) : (withdraw s).aCoord = s.aCoord := rfl
@[simp] theorem withdraw_aFrame (s : State) : (withdraw s).aFrame = s.aFrame := rfl
@[simp] theorem withdraw_lOp (s : State) : (withdraw s).lOp = s.lOp := rfl
@[simp] theorem withdraw_lKind (s : State) : (withdraw s).lKind = s.lKind := rfl
@[simp] theorem withdraw_lLimit (s : State) : (withdraw s).lLimit = s.lLimit := rfl
@[simp] theorem withdraw_txbuf (s : State) : (withdraw s).txbuf = s.txbuf := rfl
@[simp] theorem withdraw_rxbuf (s : State) : (withdraw s).rxbuf = s.rxbuf := rfl
@[simp] theorem withdraw_phase (s : State) : (withdraw s).phase = s.phase := rfl
@[simp] theorem withdraw_idx (s : State) : (withdraw s).idx = s.idx := rfl
@[simp] theorem withdraw_timer (s : State) : (withdraw s).timer = s.timer := rfl
@[simp] theorem withdraw_done (s : State) : (withdraw s).done = s.done := rfl
@[simp] theorem withdraw_rClass (s : State) : (withdraw s).rClass = s.rClass := rfl
@[simp] theorem withdraw_rCode (s : State) : (withdraw s).rCode = s.rCode := rfl
@[simp] theorem withdraw_rArg (s : State) : (withdraw s).rArg = s.rArg := rfl
@[simp] theorem withdraw_rFrame (s : State) : (withdraw s).rFrame = s.rFrame := rfl
@[simp] theorem withdraw_rValue (s : State) : (withdraw s).rValue = s.rValue := rfl
@[simp] theorem withdraw_rHasvalue (s : State) : (withdraw s).rHasvalue = s.rHasvalue := rfl
@[simp] theorem withdraw_dAddress (s : State) : (withdraw s).dAddress = s.dAddress := rfl
@[simp] theorem withdraw_dModule (s : State) : (withdraw s).dModule = s.dModule := rfl
@[simp] theorem withdraw_dStatus (s : State) : (withdraw s).dStatus = s.dStatus := rfl
@[simp] theorem withdraw_dCmd (s : State) : (withdraw s).dCmd = s.dCmd := rfl
@[simp] theorem withdraw_dValue (s : State) : (withdraw s).dValue = s.dValue := rfl
@[simp] theorem withdraw_dValid (s : State) : (withdraw s).dValid = s.dValid := rfl
@[simp] theorem withdraw_tpl (s : State) : (withdraw s).tpl = s.tpl := rfl
@[simp] theorem withdraw_txs (s : State) : (withdraw s).txs = s.txs := rfl
@[simp] theorem withdraw_rxs (s : State) : (withdraw s).rxs = s.rxs := rfl
@[simp] theorem withdraw_rxq (s : State) : (withdraw s).rxq = s.rxq := rfl
@[simp] theorem withdraw_linkUp (s : State) : (withdraw s).linkUp = s.linkUp := rfl
@[simp] theorem withdraw_pend (s : State) : (withdraw s).pend = none := rfl
@[simp] theorem withdraw_inputs (s : State) : (withdraw s).inputs = s.inputs := rfl
@[simp] theorem withdraw_fresh (s : State) : (withdraw s).fresh = s.fresh := rfl
@[simp] theorem withdraw_inst (s : State) : (withdraw s).inst = s.inst := rfl

@[simp] theorem present_devaddr (st : Start) (s : State) : (present st s).devaddr = s.devaddr := rfl
@[simp] theorem present_cfg (st : Start) (s : State) : (present st s).cfg = s.cfg := rfl
@[simp] theorem present_aOp (st : Start) (s : State) : (present st s).aOp = s.aOp := rfl
@[simp] theorem present_aKind (st : Start) (s : State) : (present st s).aKind = s.aKind := rfl
@[simp] theorem present_aAddr (st : Start) (s : State) : (present st s).aAddr = s.aAddr := rfl
@[simp] theorem present_aCmd (st : Start) (s : State) : (present st s).aCmd = s.aCmd := rfl
@[simp] theorem present_aType (st : Start) (s : State) : (present st s).aType = s.aType := rfl
@[simp] theorem present_aMotor (st : Start) (s : State) : (present st s).aMotor = s.aMotor := rfl
@[simp] theorem present_aValue (st : Start) (s : State) : (present st s).aValue = s.aValue := rfl
@[simp] theorem present_aTimeout (st : Start) (s : State) : (present st s).aTimeout = s.aTimeout := rfl
@[simp] theorem present_aMvt (st : Start) (s : State) : (present st s).aMvt = s.aMvt := rfl
@[simp] theorem present_aCoord (st : Start) (s : State) : (present st s).aCoord = s.aCoord := rfl
@[simp] theorem present_aFrame (st : Start) (s : State) : (present st s).aFrame = s.aFrame := rfl
@[simp] theorem present_lOp (st : Start) (s : State) : (present st s).lOp = s.lOp := rfl
@[simp] theorem present_lKind (st : Start) (s : State) : (present st s).lKind = s.lKind := rfl
@[simp] theorem present_lLimit (st : Start) (s : State) : (present st s).lLimit = s.lLimit := rfl
@[simp] theorem present_txbuf (st : Start) (s : State) : (present st s).txbuf = s.txbuf := rfl
@[simp] theorem present_rxbuf (st : Start) (s : State) : (present st s).rxbuf = s.rxbuf := rfl
@[simp] theorem present_phase (st : Start) (s : State) : (present st s).phase = s.phase := rfl
@[simp] theorem present_idx (st : Start) (s : State) : (present st s).idx = s.idx := rfl
@[simp] theorem present_timer (st : Start) (s : State) : (present st s).timer = s.timer := rfl
@[simp] theorem present_done (st : Start) (s : State) : (present st s).done = s.done := rfl
@[simp] theorem present_rClass (st : Start) (s : State) : (present st s).rClass = s.rClass := rfl
@[simp] theorem present_rCode (st : Start) (s : State) : (present st s).rCode = s.rCode := rfl
@[simp] theorem present_rArg (st : Start) (s : State) : (present st s).rArg = s.rArg := rfl
@[simp] theorem present_rFrame (st : Start) (s : State) : (present st s).rFrame = s.rFrame := rfl
@[simp] theorem present_rValue (st : Start) (s : State) : (present st s).rValue = s.rValue := rfl
@[simp] theorem present_rHasvalue (st : Start) (s : State) : (present st s).rHasvalue = s.rHasvalue := rfl
@[simp] theorem present_dAddress (st : Start) (s : State) : (present st s).dAddress = s.dAddress := rfl
@[simp] theorem present_dModule (st : Start) (s : State) : (present st s).dModule = s.dModule := rfl
@[simp] theorem present_dStatus (st : Start) (s : State) : (present st s).dStatus = s.dStatus := rfl
@[simp] theorem present_dCmd (st : Start) (s : State) : (present st s).dCmd = s.dCmd := rfl
@[simp] theorem present_dValue (st : Start) (s : State) : (present st s).dValue = s.dValue := rfl
@[simp] theorem present_dValid (st : Start) (s : State) : (present st s).dValid = s.dValid := rfl
@[simp] theorem present_tpl (st : Start) (s : State) : (present st s).tpl = s.tpl := rfl
@[simp] theorem present_txs (st : Start) (s : State) : (present st s).txs = s.txs := rfl
@[simp] theorem present_rxs (st : Start) (s : State) : (present st s).rxs = s.rxs := rfl
@[simp] theorem present_rxq (st : Start) (s : State) : (present st s).rxq = s.rxq := rfl
@[simp] theorem present_linkUp (st : Start) (s : State) : (present st s).linkUp = s.linkUp := rfl
@[simp] theorem present_pend (st : Start) (s : State) : (present st s).pend = some st := rfl
@[simp] theorem present_inputs (st : Start) (s : State) : (present st s).inputs = s.inputs := rfl
@[simp] theorem present_fresh (st : Start) (s : State) : (present st s).fresh = s.fresh := rfl
@[simp] theorem present_inst (st : Start) (s : State) : (present st s).inst = s.inst := rfl

@[simp] theorem setResult_devaddr (c : ResultClass) (code : BitVec 16) (arg : BitVec 4) (h : Bool) (s : State) : (setResult c code arg h s).devaddr = s.devaddr := rfl
@[simp] theorem setResult_cfg (c : ResultClass) (code : BitVec 16) (arg : BitVec 4) (h : Bool) (s : State) : (setResult c code arg h s).cfg = s.cfg := rfl
@[simp] theorem setResult_aOp (c : ResultClass) (code : BitVec 16) (arg : BitVec 4) (h : Bool) (s : State) : (setResult c code arg h s).aOp = s.aOp := rfl
@[simp] theorem setResult_aKind (c : ResultClass) (code : BitVec 16) (arg : BitVec 4) (h : Bool) (s : State) : (setResult c code arg h s).aKind = s.aKind := rfl
@[simp] theorem setResult_aAddr (c : ResultClass) (code : BitVec 16) (arg : BitVec 4) (h : Bool) (s : State) : (setResult c code arg h s).aAddr = s.aAddr := rfl
@[simp] theorem setResult_aCmd (c : ResultClass) (code : BitVec 16) (arg : BitVec 4) (h : Bool) (s : State) : (setResult c code arg h s).aCmd = s.aCmd := rfl
@[simp] theorem setResult_aType (c : ResultClass) (code : BitVec 16) (arg : BitVec 4) (h : Bool) (s : State) : (setResult c code arg h s).aType = s.aType := rfl
@[simp] theorem setResult_aMotor (c : ResultClass) (code : BitVec 16) (arg : BitVec 4) (h : Bool) (s : State) : (setResult c code arg h s).aMotor = s.aMotor := rfl
@[simp] theorem setResult_aValue (c : ResultClass) (code : BitVec 16) (arg : BitVec 4) (h : Bool) (s : State) : (setResult c code arg h s).aValue = s.aValue := rfl
@[simp] theorem setResult_aTimeout (c : ResultClass) (code : BitVec 16) (arg : BitVec 4) (h : Bool) (s : State) : (setResult c code arg h s).aTimeout = s.aTimeout := rfl
@[simp] theorem setResult_aMvt (c : ResultClass) (code : BitVec 16) (arg : BitVec 4) (h : Bool) (s : State) : (setResult c code arg h s).aMvt = s.aMvt := rfl
@[simp] theorem setResult_aCoord (c : ResultClass) (code : BitVec 16) (arg : BitVec 4) (h : Bool) (s : State) : (setResult c code arg h s).aCoord = s.aCoord := rfl
@[simp] theorem setResult_aFrame (c : ResultClass) (code : BitVec 16) (arg : BitVec 4) (h : Bool) (s : State) : (setResult c code arg h s).aFrame = s.aFrame := rfl
@[simp] theorem setResult_lOp (c : ResultClass) (code : BitVec 16) (arg : BitVec 4) (h : Bool) (s : State) : (setResult c code arg h s).lOp = s.lOp := rfl
@[simp] theorem setResult_lKind (c : ResultClass) (code : BitVec 16) (arg : BitVec 4) (h : Bool) (s : State) : (setResult c code arg h s).lKind = s.lKind := rfl
@[simp] theorem setResult_lLimit (c : ResultClass) (code : BitVec 16) (arg : BitVec 4) (h : Bool) (s : State) : (setResult c code arg h s).lLimit = s.lLimit := rfl
@[simp] theorem setResult_txbuf (c : ResultClass) (code : BitVec 16) (arg : BitVec 4) (h : Bool) (s : State) : (setResult c code arg h s).txbuf = s.txbuf := rfl
@[simp] theorem setResult_rxbuf (c : ResultClass) (code : BitVec 16) (arg : BitVec 4) (h : Bool) (s : State) : (setResult c code arg h s).rxbuf = s.rxbuf := rfl
@[simp] theorem setResult_phase (c : ResultClass) (code : BitVec 16) (arg : BitVec 4) (h : Bool) (s : State) : (setResult c code arg h s).phase = .idle := rfl
@[simp] theorem setResult_idx (c : ResultClass) (code : BitVec 16) (arg : BitVec 4) (h : Bool) (s : State) : (setResult c code arg h s).idx = 0 := rfl
@[simp] theorem setResult_timer (c : ResultClass) (code : BitVec 16) (arg : BitVec 4) (h : Bool) (s : State) : (setResult c code arg h s).timer = s.timer := rfl
@[simp] theorem setResult_done (c : ResultClass) (code : BitVec 16) (arg : BitVec 4) (h : Bool) (s : State) : (setResult c code arg h s).done = true := rfl
@[simp] theorem setResult_rClass (c : ResultClass) (code : BitVec 16) (arg : BitVec 4) (h : Bool) (s : State) : (setResult c code arg h s).rClass = c := rfl
@[simp] theorem setResult_rCode (c : ResultClass) (code : BitVec 16) (arg : BitVec 4) (h : Bool) (s : State) : (setResult c code arg h s).rCode = code := rfl
@[simp] theorem setResult_rArg (c : ResultClass) (code : BitVec 16) (arg : BitVec 4) (h : Bool) (s : State) : (setResult c code arg h s).rArg = arg := rfl
@[simp] theorem setResult_rFrame (c : ResultClass) (code : BitVec 16) (arg : BitVec 4) (h : Bool) (s : State) : (setResult c code arg h s).rFrame = s.rFrame := rfl
@[simp] theorem setResult_rValue (c : ResultClass) (code : BitVec 16) (arg : BitVec 4) (h : Bool) (s : State) : (setResult c code arg h s).rValue = s.rValue := rfl
@[simp] theorem setResult_rHasvalue (c : ResultClass) (code : BitVec 16) (arg : BitVec 4) (h : Bool) (s : State) : (setResult c code arg h s).rHasvalue = h := rfl
@[simp] theorem setResult_dAddress (c : ResultClass) (code : BitVec 16) (arg : BitVec 4) (h : Bool) (s : State) : (setResult c code arg h s).dAddress = s.dAddress := rfl
@[simp] theorem setResult_dModule (c : ResultClass) (code : BitVec 16) (arg : BitVec 4) (h : Bool) (s : State) : (setResult c code arg h s).dModule = s.dModule := rfl
@[simp] theorem setResult_dStatus (c : ResultClass) (code : BitVec 16) (arg : BitVec 4) (h : Bool) (s : State) : (setResult c code arg h s).dStatus = s.dStatus := rfl
@[simp] theorem setResult_dCmd (c : ResultClass) (code : BitVec 16) (arg : BitVec 4) (h : Bool) (s : State) : (setResult c code arg h s).dCmd = s.dCmd := rfl
@[simp] theorem setResult_dValue (c : ResultClass) (code : BitVec 16) (arg : BitVec 4) (h : Bool) (s : State) : (setResult c code arg h s).dValue = s.dValue := rfl
@[simp] theorem setResult_dValid (c : ResultClass) (code : BitVec 16) (arg : BitVec 4) (h : Bool) (s : State) : (setResult c code arg h s).dValid = s.dValid := rfl
@[simp] theorem setResult_tpl (c : ResultClass) (code : BitVec 16) (arg : BitVec 4) (h : Bool) (s : State) : (setResult c code arg h s).tpl = s.tpl := rfl
@[simp] theorem setResult_txs (c : ResultClass) (code : BitVec 16) (arg : BitVec 4) (h : Bool) (s : State) : (setResult c code arg h s).txs = s.txs := rfl
@[simp] theorem setResult_rxs (c : ResultClass) (code : BitVec 16) (arg : BitVec 4) (h : Bool) (s : State) : (setResult c code arg h s).rxs = s.rxs := rfl
@[simp] theorem setResult_rxq (c : ResultClass) (code : BitVec 16) (arg : BitVec 4) (h : Bool) (s : State) : (setResult c code arg h s).rxq = s.rxq := rfl
@[simp] theorem setResult_linkUp (c : ResultClass) (code : BitVec 16) (arg : BitVec 4) (h : Bool) (s : State) : (setResult c code arg h s).linkUp = s.linkUp := rfl
@[simp] theorem setResult_pend (c : ResultClass) (code : BitVec 16) (arg : BitVec 4) (h : Bool) (s : State) : (setResult c code arg h s).pend = s.pend := rfl
@[simp] theorem setResult_inputs (c : ResultClass) (code : BitVec 16) (arg : BitVec 4) (h : Bool) (s : State) : (setResult c code arg h s).inputs = s.inputs := rfl
@[simp] theorem setResult_fresh (c : ResultClass) (code : BitVec 16) (arg : BitVec 4) (h : Bool) (s : State) : (setResult c code arg h s).fresh = s.fresh := rfl
@[simp] theorem setResult_inst (c : ResultClass) (code : BitVec 16) (arg : BitVec 4) (h : Bool) (s : State) : (setResult c code arg h s).inst = s.inst := rfl

@[simp] theorem linkPut_devaddr (b : Byte) (s : State) : (linkPut b s).devaddr = s.devaddr := rfl
@[simp] theorem linkPut_cfg (b : Byte) (s : State) : (linkPut b s).cfg = s.cfg := rfl
@[simp] theorem linkPut_aOp (b : Byte) (s : State) : (linkPut b s).aOp = s.aOp := rfl
@[simp] theorem linkPut_aKind (b : Byte) (s : State) : (linkPut b s).aKind = s.aKind := rfl
@[simp] theorem linkPut_aAddr (b : Byte) (s : State) : (linkPut b s).aAddr = s.aAddr := rfl
@[simp] theorem linkPut_aCmd (b : Byte) (s : State) : (linkPut b s).aCmd = s.aCmd := rfl
@[simp] theorem linkPut_aType (b : Byte) (s : State) : (linkPut b s).aType = s.aType := rfl
@[simp] theorem linkPut_aMotor (b : Byte) (s : State) : (linkPut b s).aMotor = s.aMotor := rfl
@[simp] theorem linkPut_aValue (b : Byte) (s : State) : (linkPut b s).aValue = s.aValue := rfl
@[simp] theorem linkPut_aTimeout (b : Byte) (s : State) : (linkPut b s).aTimeout = s.aTimeout := rfl
@[simp] theorem linkPut_aMvt (b : Byte) (s : State) : (linkPut b s).aMvt = s.aMvt := rfl
@[simp] theorem linkPut_aCoord (b : Byte) (s : State) : (linkPut b s).aCoord = s.aCoord := rfl
@[simp] theorem linkPut_aFrame (b : Byte) (s : State) : (linkPut b s).aFrame = s.aFrame := rfl
@[simp] theorem linkPut_lOp (b : Byte) (s : State) : (linkPut b s).lOp = s.lOp := rfl
@[simp] theorem linkPut_lKind (b : Byte) (s : State) : (linkPut b s).lKind = s.lKind := rfl
@[simp] theorem linkPut_lLimit (b : Byte) (s : State) : (linkPut b s).lLimit = s.lLimit := rfl
@[simp] theorem linkPut_txbuf (b : Byte) (s : State) : (linkPut b s).txbuf = s.txbuf := rfl
@[simp] theorem linkPut_rxbuf (b : Byte) (s : State) : (linkPut b s).rxbuf = s.rxbuf := rfl
@[simp] theorem linkPut_phase (b : Byte) (s : State) : (linkPut b s).phase = s.phase := rfl
@[simp] theorem linkPut_idx (b : Byte) (s : State) : (linkPut b s).idx = s.idx := rfl
@[simp] theorem linkPut_timer (b : Byte) (s : State) : (linkPut b s).timer = s.timer := rfl
@[simp] theorem linkPut_done (b : Byte) (s : State) : (linkPut b s).done = s.done := rfl
@[simp] theorem linkPut_rClass (b : Byte) (s : State) : (linkPut b s).rClass = s.rClass := rfl
@[simp] theorem linkPut_rCode (b : Byte) (s : State) : (linkPut b s).rCode = s.rCode := rfl
@[simp] theorem linkPut_rArg (b : Byte) (s : State) : (linkPut b s).rArg = s.rArg := rfl
@[simp] theorem linkPut_rFrame (b : Byte) (s : State) : (linkPut b s).rFrame = s.rFrame := rfl
@[simp] theorem linkPut_rValue (b : Byte) (s : State) : (linkPut b s).rValue = s.rValue := rfl
@[simp] theorem linkPut_rHasvalue (b : Byte) (s : State) : (linkPut b s).rHasvalue = s.rHasvalue := rfl
@[simp] theorem linkPut_dAddress (b : Byte) (s : State) : (linkPut b s).dAddress = s.dAddress := rfl
@[simp] theorem linkPut_dModule (b : Byte) (s : State) : (linkPut b s).dModule = s.dModule := rfl
@[simp] theorem linkPut_dStatus (b : Byte) (s : State) : (linkPut b s).dStatus = s.dStatus := rfl
@[simp] theorem linkPut_dCmd (b : Byte) (s : State) : (linkPut b s).dCmd = s.dCmd := rfl
@[simp] theorem linkPut_dValue (b : Byte) (s : State) : (linkPut b s).dValue = s.dValue := rfl
@[simp] theorem linkPut_dValid (b : Byte) (s : State) : (linkPut b s).dValid = s.dValid := rfl
@[simp] theorem linkPut_tpl (b : Byte) (s : State) : (linkPut b s).tpl = s.tpl := rfl
@[simp] theorem linkPut_txs (b : Byte) (s : State) : (linkPut b s).txs = s.txs ++ [b] := rfl
@[simp] theorem linkPut_rxs (b : Byte) (s : State) : (linkPut b s).rxs = s.rxs := rfl
@[simp] theorem linkPut_rxq (b : Byte) (s : State) : (linkPut b s).rxq = s.rxq := rfl
@[simp] theorem linkPut_linkUp (b : Byte) (s : State) : (linkPut b s).linkUp = s.linkUp := rfl
@[simp] theorem linkPut_pend (b : Byte) (s : State) : (linkPut b s).pend = s.pend := rfl
@[simp] theorem linkPut_inputs (b : Byte) (s : State) : (linkPut b s).inputs = s.inputs := rfl
@[simp] theorem linkPut_fresh (b : Byte) (s : State) : (linkPut b s).fresh = s.fresh := rfl
@[simp] theorem linkPut_inst (b : Byte) (s : State) : (linkPut b s).inst = s.inst := rfl

@[simp] theorem linkGet_devaddr (b : Byte) (s : State) : (linkGet b s).devaddr = s.devaddr := rfl
@[simp] theorem linkGet_cfg (b : Byte) (s : State) : (linkGet b s).cfg = s.cfg := rfl
@[simp] theorem linkGet_aOp (b : Byte) (s : State) : (linkGet b s).aOp = s.aOp := rfl
@[simp] theorem linkGet_aKind (b : Byte) (s : State) : (linkGet b s).aKind = s.aKind := rfl
@[simp] theorem linkGet_aAddr (b : Byte) (s : State) : (linkGet b s).aAddr = s.aAddr := rfl
@[simp] theorem linkGet_aCmd (b : Byte) (s : State) : (linkGet b s).aCmd = s.aCmd := rfl
@[simp] theorem linkGet_aType (b : Byte) (s : State) : (linkGet b s).aType = s.aType := rfl
@[simp] theorem linkGet_aMotor (b : Byte) (s : State) : (linkGet b s).aMotor = s.aMotor := rfl
@[simp] theorem linkGet_aValue (b : Byte) (s : State) : (linkGet b s).aValue = s.aValue := rfl
@[simp] theorem linkGet_aTimeout (b : Byte) (s : State) : (linkGet b s).aTimeout = s.aTimeout := rfl
@[simp] theorem linkGet_aMvt (b : Byte) (s : State) : (linkGet b s).aMvt = s.aMvt := rfl
@[simp] theorem linkGet_aCoord (b : Byte) (s : State) : (linkGet b s).aCoord = s.aCoord := rfl
@[simp] theorem linkGet_aFrame (b : Byte) (s : State) : (linkGet b s).aFrame = s.aFrame := rfl
@[simp] theorem linkGet_lOp (b : Byte) (s : State) : (linkGet b s).lOp = s.lOp := rfl
@[simp] theorem linkGet_lKind (b : Byte) (s : State) : (linkGet b s).lKind = s.lKind := rfl
@[simp] theorem linkGet_lLimit (b : Byte) (s : State) : (linkGet b s).lLimit = s.lLimit := rfl
@[simp] theorem linkGet_txbuf (b : Byte) (s : State) : (linkGet b s).txbuf = s.txbuf := rfl
@[simp] theorem linkGet_rxbuf (b : Byte) (s : State) : (linkGet b s).rxbuf = s.rxbuf := rfl
@[simp] theorem linkGet_phase (b : Byte) (s : State) : (linkGet b s).phase = s.phase := rfl
@[simp] theorem linkGet_idx (b : Byte) (s : State) : (linkGet b s).idx = s.idx := rfl
@[simp] theorem linkGet_timer (b : Byte) (s : State) : (linkGet b s).timer = s.timer := rfl
@[simp] theorem linkGet_done (b : Byte) (s : State) : (linkGet b s).done = s.done := rfl
@[simp] theorem linkGet_rClass (b : Byte) (s : State) : (linkGet b s).rClass = s.rClass := rfl
@[simp] theorem linkGet_rCode (b : Byte) (s : State) : (linkGet b s).rCode = s.rCode := rfl
@[simp] theorem linkGet_rArg (b : Byte) (s : State) : (linkGet b s).rArg = s.rArg := rfl
@[simp] theorem linkGet_rFrame (b : Byte) (s : State) : (linkGet b s).rFrame = s.rFrame := rfl
@[simp] theorem linkGet_rValue (b : Byte) (s : State) : (linkGet b s).rValue = s.rValue := rfl
@[simp] theorem linkGet_rHasvalue (b : Byte) (s : State) : (linkGet b s).rHasvalue = s.rHasvalue := rfl
@[simp] theorem linkGet_dAddress (b : Byte) (s : State) : (linkGet b s).dAddress = s.dAddress := rfl
@[simp] theorem linkGet_dModule (b : Byte) (s : State) : (linkGet b s).dModule = s.dModule := rfl
@[simp] theorem linkGet_dStatus (b : Byte) (s : State) : (linkGet b s).dStatus = s.dStatus := rfl
@[simp] theorem linkGet_dCmd (b : Byte) (s : State) : (linkGet b s).dCmd = s.dCmd := rfl
@[simp] theorem linkGet_dValue (b : Byte) (s : State) : (linkGet b s).dValue = s.dValue := rfl
@[simp] theorem linkGet_dValid (b : Byte) (s : State) : (linkGet b s).dValid = s.dValid := rfl
@[simp] theorem linkGet_tpl (b : Byte) (s : State) : (linkGet b s).tpl = s.tpl := rfl
@[simp] theorem linkGet_txs (b : Byte) (s : State) : (linkGet b s).txs = s.txs := rfl
@[simp] theorem linkGet_rxs (b : Byte) (s : State) : (linkGet b s).rxs = s.rxs ++ [b] := rfl
@[simp] theorem linkGet_rxq (b : Byte) (s : State) : (linkGet b s).rxq = s.rxq := rfl
@[simp] theorem linkGet_linkUp (b : Byte) (s : State) : (linkGet b s).linkUp = s.linkUp := rfl
@[simp] theorem linkGet_pend (b : Byte) (s : State) : (linkGet b s).pend = s.pend := rfl
@[simp] theorem linkGet_inputs (b : Byte) (s : State) : (linkGet b s).inputs = s.inputs := rfl
@[simp] theorem linkGet_fresh (b : Byte) (s : State) : (linkGet b s).fresh = s.fresh := rfl
@[simp] theorem linkGet_inst (b : Byte) (s : State) : (linkGet b s).inst = s.inst := rfl

@[simp] theorem linkOpen_devaddr (s : State) : (linkOpen s).devaddr = s.devaddr := rfl
@[simp] theorem linkOpen_cfg (s : State) : (linkOpen s).cfg = s.cfg := rfl
@[simp] theorem linkOpen_aOp (s : State) : (linkOpen s).aOp = s.aOp := rfl
@[simp] theorem linkOpen_aKind (s : State) : (linkOpen s).aKind = s.aKind := rfl
@[simp] theorem linkOpen_aAddr (s : State) : (linkOpen s).aAddr = s.aAddr := rfl
@[simp] theorem linkOpen_aCmd (s : State) : (linkOpen s).aCmd = s.aCmd := rfl
@[simp] theorem linkOpen_aType (s : State) : (linkOpen s).aType = s.aType := rfl
@[simp] theorem linkOpen_aMotor (s : State) : (linkOpen s).aMotor = s.aMotor := rfl
@[simp] theorem linkOpen_aValue (s : State) : (linkOpen s).aValue = s.aValue := rfl
@[simp] theorem linkOpen_aTimeout (s : State) : (linkOpen s).aTimeout = s.aTimeout := rfl
@[simp] theorem linkOpen_aMvt (s : State) : (linkOpen s).aMvt = s.aMvt := rfl
@[simp] theorem linkOpen_aCoord (s : State) : (linkOpen s).aCoord = s.aCoord := rfl
@[simp] theorem linkOpen_aFrame (s : State) : (linkOpen s).aFrame = s.aFrame := rfl
@[simp] theorem linkOpen_lOp (s : State) : (linkOpen s).lOp = s.lOp := rfl
@[simp] theorem linkOpen_lKind (s : State) : (linkOpen s).lKind = s.lKind := rfl
@[simp] theorem linkOpen_lLimit (s : State) : (linkOpen s).lLimit = s.lLimit := rfl
@[simp] theorem linkOpen_txbuf (s : State) : (linkOpen s).txbuf = s.txbuf := rfl
@[simp] theorem linkOpen_rxbuf (s : State) : (linkOpen s).rxbuf = s.rxbuf := rfl
@[simp] theorem linkOpen_phase (s : State) : (linkOpen s).phase = s.phase := rfl
@[simp] theorem linkOpen_idx (s : State) : (linkOpen s).idx = s.idx := rfl
@[simp] theorem linkOpen_timer (s : State) : (linkOpen s).timer = s.timer := rfl
@[simp] theorem linkOpen_done (s : State) : (linkOpen s).done = s.done := rfl
@[simp] theorem linkOpen_rClass (s : State) : (linkOpen s).rClass = s.rClass := rfl
@[simp] theorem linkOpen_rCode (s : State) : (linkOpen s).rCode = s.rCode := rfl
@[simp] theorem linkOpen_rArg (s : State) : (linkOpen s).rArg = s.rArg := rfl
@[simp] theorem linkOpen_rFrame (s : State) : (linkOpen s).rFrame = s.rFrame := rfl
@[simp] theorem linkOpen_rValue (s : State) : (linkOpen s).rValue = s.rValue := rfl
@[simp] theorem linkOpen_rHasvalue (s : State) : (linkOpen s).rHasvalue = s.rHasvalue := rfl
@[simp] theorem linkOpen_dAddress (s : State) : (linkOpen s).dAddress = s.dAddress := rfl
@[simp] theorem linkOpen_dModule (s : State) : (linkOpen s).dModule = s.dModule := rfl
@[simp] theorem linkOpen_dStatus (s : State) : (linkOpen s).dStatus = s.dStatus := rfl
@[simp] theorem linkOpen_dCmd (s : State) : (linkOpen s).dCmd = s.dCmd := rfl
@[simp] theorem linkOpen_dValue (s : State) : (linkOpen s).dValue = s.dValue := rfl
@[simp] theorem linkOpen_dValid (s : State) : (linkOpen s).dValid = s.dValid := rfl
@[simp] theorem linkOpen_tpl (s : State) : (linkOpen s).tpl = s.tpl := rfl
@[simp] theorem linkOpen_txs (s : State) : (linkOpen s).txs = s.txs := rfl
@[simp] theorem linkOpen_rxs (s : State) : (linkOpen s).rxs = s.rxs := rfl
@[simp] theorem linkOpen_rxq (s : State) : (linkOpen s).rxq = s.rxq := rfl
@[simp] theorem linkOpen_linkUp (s : State) : (linkOpen s).linkUp = true := rfl
@[simp] theorem linkOpen_pend (s : State) : (linkOpen s).pend = s.pend := rfl
@[simp] theorem linkOpen_inputs (s : State) : (linkOpen s).inputs = s.inputs := rfl
@[simp] theorem linkOpen_fresh (s : State) : (linkOpen s).fresh = s.fresh := rfl
@[simp] theorem linkOpen_inst (s : State) : (linkOpen s).inst = s.inst := rfl

@[simp] theorem endOp_devaddr (e : Ending) (s : State) : (endOp e s).devaddr = s.devaddr := by
  unfold endOp; split <;> rfl
@[simp] theorem endOp_cfg (e : Ending) (s : State) : (endOp e s).cfg = s.cfg := by
  unfold endOp; split <;> rfl
@[simp] theorem endOp_aOp (e : Ending) (s : State) : (endOp e s).aOp = s.aOp := by
  unfold endOp; split <;> rfl
@[simp] theorem endOp_aKind (e : Ending) (s : State) : (endOp e s).aKind = s.aKind := by
  unfold endOp; split <;> rfl
@[simp] theorem endOp_aAddr (e : Ending) (s : State) : (endOp e s).aAddr = s.aAddr := by
  unfold endOp; split <;> rfl
@[simp] theorem endOp_aCmd (e : Ending) (s : State) : (endOp e s).aCmd = s.aCmd := by
  unfold endOp; split <;> rfl
@[simp] theorem endOp_aType (e : Ending) (s : State) : (endOp e s).aType = s.aType := by
  unfold endOp; split <;> rfl
@[simp] theorem endOp_aMotor (e : Ending) (s : State) : (endOp e s).aMotor = s.aMotor := by
  unfold endOp; split <;> rfl
@[simp] theorem endOp_aValue (e : Ending) (s : State) : (endOp e s).aValue = s.aValue := by
  unfold endOp; split <;> rfl
@[simp] theorem endOp_aTimeout (e : Ending) (s : State) : (endOp e s).aTimeout = s.aTimeout := by
  unfold endOp; split <;> rfl
@[simp] theorem endOp_aMvt (e : Ending) (s : State) : (endOp e s).aMvt = s.aMvt := by
  unfold endOp; split <;> rfl
@[simp] theorem endOp_aCoord (e : Ending) (s : State) : (endOp e s).aCoord = s.aCoord := by
  unfold endOp; split <;> rfl
@[simp] theorem endOp_aFrame (e : Ending) (s : State) : (endOp e s).aFrame = s.aFrame := by
  unfold endOp; split <;> rfl
@[simp] theorem endOp_lOp (e : Ending) (s : State) : (endOp e s).lOp = s.lOp := by
  unfold endOp; split <;> rfl
@[simp] theorem endOp_lKind (e : Ending) (s : State) : (endOp e s).lKind = s.lKind := by
  unfold endOp; split <;> rfl
@[simp] theorem endOp_lLimit (e : Ending) (s : State) : (endOp e s).lLimit = s.lLimit := by
  unfold endOp; split <;> rfl
@[simp] theorem endOp_txbuf (e : Ending) (s : State) : (endOp e s).txbuf = s.txbuf := by
  unfold endOp; split <;> rfl
@[simp] theorem endOp_rxbuf (e : Ending) (s : State) : (endOp e s).rxbuf = s.rxbuf := by
  unfold endOp; split <;> rfl
@[simp] theorem endOp_phase (e : Ending) (s : State) : (endOp e s).phase = .idle := by
  unfold endOp; split <;> rfl
@[simp] theorem endOp_idx (e : Ending) (s : State) : (endOp e s).idx = 0 := by
  unfold endOp; split <;> rfl
@[simp] theorem endOp_timer (e : Ending) (s : State) : (endOp e s).timer = s.timer := by
  unfold endOp; split <;> rfl
@[simp] theorem endOp_done (e : Ending) (s : State) : (endOp e s).done = true := by
  unfold endOp; split <;> rfl
@[simp] theorem endOp_rFrame (e : Ending) (s : State) : (endOp e s).rFrame = s.rFrame := by
  unfold endOp; split <;> rfl
@[simp] theorem endOp_dAddress (e : Ending) (s : State) : (endOp e s).dAddress = s.dAddress := by
  unfold endOp; split <;> rfl
@[simp] theorem endOp_dModule (e : Ending) (s : State) : (endOp e s).dModule = s.dModule := by
  unfold endOp; split <;> rfl
@[simp] theorem endOp_dStatus (e : Ending) (s : State) : (endOp e s).dStatus = s.dStatus := by
  unfold endOp; split <;> rfl
@[simp] theorem endOp_dCmd (e : Ending) (s : State) : (endOp e s).dCmd = s.dCmd := by
  unfold endOp; split <;> rfl
@[simp] theorem endOp_dValue (e : Ending) (s : State) : (endOp e s).dValue = s.dValue := by
  unfold endOp; split <;> rfl
@[simp] theorem endOp_dValid (e : Ending) (s : State) : (endOp e s).dValid = s.dValid := by
  unfold endOp; split <;> rfl
@[simp] theorem endOp_tpl (e : Ending) (s : State) : (endOp e s).tpl = s.tpl := by
  unfold endOp; split <;> rfl
@[simp] theorem endOp_txs (e : Ending) (s : State) : (endOp e s).txs = s.txs := by
  unfold endOp; split <;> rfl
@[simp] theorem endOp_rxs (e : Ending) (s : State) : (endOp e s).rxs = s.rxs := by
  unfold endOp; split <;> rfl
@[simp] theorem endOp_rxq (e : Ending) (s : State) : (endOp e s).rxq = s.rxq := by
  unfold endOp; split <;> rfl
@[simp] theorem endOp_linkUp (e : Ending) (s : State) : (endOp e s).linkUp = s.linkUp := by
  unfold endOp; split <;> rfl
@[simp] theorem endOp_pend (e : Ending) (s : State) : (endOp e s).pend = s.pend := by
  unfold endOp; split <;> rfl
@[simp] theorem endOp_inputs (e : Ending) (s : State) : (endOp e s).inputs = s.inputs := by
  unfold endOp; split <;> rfl
@[simp] theorem endOp_fresh (e : Ending) (s : State) : (endOp e s).fresh = s.fresh := by
  unfold endOp; split <;> rfl
@[simp] theorem endOp_inst (e : Ending) (s : State) : (endOp e s).inst = s.inst := by
  unfold endOp; split <;> rfl

@[simp] theorem hostWrite_devaddr (w : HostWrite) (s : State) : (hostWrite w s).devaddr = s.devaddr := by
  cases w <;> rfl
@[simp] theorem hostWrite_cfg (w : HostWrite) (s : State) : (hostWrite w s).cfg = s.cfg := by
  cases w <;> rfl
@[simp] theorem hostWrite_lOp (w : HostWrite) (s : State) : (hostWrite w s).lOp = s.lOp := by
  cases w <;> rfl
@[simp] theorem hostWrite_lKind (w : HostWrite) (s : State) : (hostWrite w s).lKind = s.lKind := by
  cases w <;> rfl
@[simp] theorem hostWrite_lLimit (w : HostWrite) (s : State) : (hostWrite w s).lLimit = s.lLimit := by
  cases w <;> rfl
@[simp] theorem hostWrite_txbuf (w : HostWrite) (s : State) : (hostWrite w s).txbuf = s.txbuf := by
  cases w <;> rfl
@[simp] theorem hostWrite_rxbuf (w : HostWrite) (s : State) : (hostWrite w s).rxbuf = s.rxbuf := by
  cases w <;> rfl
@[simp] theorem hostWrite_phase (w : HostWrite) (s : State) : (hostWrite w s).phase = s.phase := by
  cases w <;> rfl
@[simp] theorem hostWrite_idx (w : HostWrite) (s : State) : (hostWrite w s).idx = s.idx := by
  cases w <;> rfl
@[simp] theorem hostWrite_timer (w : HostWrite) (s : State) : (hostWrite w s).timer = s.timer := by
  cases w <;> rfl
@[simp] theorem hostWrite_done (w : HostWrite) (s : State) : (hostWrite w s).done = s.done := by
  cases w <;> rfl
@[simp] theorem hostWrite_rClass (w : HostWrite) (s : State) : (hostWrite w s).rClass = s.rClass := by
  cases w <;> rfl
@[simp] theorem hostWrite_rCode (w : HostWrite) (s : State) : (hostWrite w s).rCode = s.rCode := by
  cases w <;> rfl
@[simp] theorem hostWrite_rArg (w : HostWrite) (s : State) : (hostWrite w s).rArg = s.rArg := by
  cases w <;> rfl
@[simp] theorem hostWrite_rFrame (w : HostWrite) (s : State) : (hostWrite w s).rFrame = s.rFrame := by
  cases w <;> rfl
@[simp] theorem hostWrite_rValue (w : HostWrite) (s : State) : (hostWrite w s).rValue = s.rValue := by
  cases w <;> rfl
@[simp] theorem hostWrite_rHasvalue (w : HostWrite) (s : State) : (hostWrite w s).rHasvalue = s.rHasvalue := by
  cases w <;> rfl
@[simp] theorem hostWrite_dAddress (w : HostWrite) (s : State) : (hostWrite w s).dAddress = s.dAddress := by
  cases w <;> rfl
@[simp] theorem hostWrite_dModule (w : HostWrite) (s : State) : (hostWrite w s).dModule = s.dModule := by
  cases w <;> rfl
@[simp] theorem hostWrite_dStatus (w : HostWrite) (s : State) : (hostWrite w s).dStatus = s.dStatus := by
  cases w <;> rfl
@[simp] theorem hostWrite_dCmd (w : HostWrite) (s : State) : (hostWrite w s).dCmd = s.dCmd := by
  cases w <;> rfl
@[simp] theorem hostWrite_dValue (w : HostWrite) (s : State) : (hostWrite w s).dValue = s.dValue := by
  cases w <;> rfl
@[simp] theorem hostWrite_dValid (w : HostWrite) (s : State) : (hostWrite w s).dValid = s.dValid := by
  cases w <;> rfl
@[simp] theorem hostWrite_tpl (w : HostWrite) (s : State) : (hostWrite w s).tpl = s.tpl := by
  cases w <;> rfl
@[simp] theorem hostWrite_txs (w : HostWrite) (s : State) : (hostWrite w s).txs = s.txs := by
  cases w <;> rfl
@[simp] theorem hostWrite_rxs (w : HostWrite) (s : State) : (hostWrite w s).rxs = s.rxs := by
  cases w <;> rfl
@[simp] theorem hostWrite_rxq (w : HostWrite) (s : State) : (hostWrite w s).rxq = s.rxq := by
  cases w <;> rfl
@[simp] theorem hostWrite_linkUp (w : HostWrite) (s : State) : (hostWrite w s).linkUp = s.linkUp := by
  cases w <;> rfl
@[simp] theorem hostWrite_pend (w : HostWrite) (s : State) : (hostWrite w s).pend = s.pend := by
  cases w <;> rfl
@[simp] theorem hostWrite_inputs (w : HostWrite) (s : State) : (hostWrite w s).inputs = s.inputs := by
  cases w <;> rfl
@[simp] theorem hostWrite_fresh (w : HostWrite) (s : State) : (hostWrite w s).fresh = s.fresh := by
  cases w <;> rfl
@[simp] theorem hostWrite_inst (w : HostWrite) (s : State) : (hostWrite w s).inst = s.inst := by
  cases w <;> rfl

@[simp] theorem resetBlock_devaddr (s : State) : (resetBlock s).devaddr = State.reset.devaddr := rfl
@[simp] theorem resetBlock_cfg (s : State) : (resetBlock s).cfg = State.reset.cfg := rfl
@[simp] theorem resetBlock_aOp (s : State) : (resetBlock s).aOp = State.reset.aOp := rfl
@[simp] theorem resetBlock_aKind (s : State) : (resetBlock s).aKind = State.reset.aKind := rfl
@[simp] theorem resetBlock_aAddr (s : State) : (resetBlock s).aAddr = State.reset.aAddr := rfl
@[simp] theorem resetBlock_aCmd (s : State) : (resetBlock s).aCmd = State.reset.aCmd := rfl
@[simp] theorem resetBlock_aType (s : State) : (resetBlock s).aType = State.reset.aType := rfl
@[simp] theorem resetBlock_aMotor (s : State) : (resetBlock s).aMotor = State.reset.aMotor := rfl
@[simp] theorem resetBlock_aValue (s : State) : (resetBlock s).aValue = State.reset.aValue := rfl
@[simp] theorem resetBlock_aTimeout (s : State) : (resetBlock s).aTimeout = State.reset.aTimeout := rfl
@[simp] theorem resetBlock_aMvt (s : State) : (resetBlock s).aMvt = State.reset.aMvt := rfl
@[simp] theorem resetBlock_aCoord (s : State) : (resetBlock s).aCoord = State.reset.aCoord := rfl
@[simp] theorem resetBlock_aFrame (s : State) : (resetBlock s).aFrame = State.reset.aFrame := rfl
@[simp] theorem resetBlock_lOp (s : State) : (resetBlock s).lOp = State.reset.lOp := rfl
@[simp] theorem resetBlock_lKind (s : State) : (resetBlock s).lKind = State.reset.lKind := rfl
@[simp] theorem resetBlock_lLimit (s : State) : (resetBlock s).lLimit = State.reset.lLimit := rfl
@[simp] theorem resetBlock_txbuf (s : State) : (resetBlock s).txbuf = State.reset.txbuf := rfl
@[simp] theorem resetBlock_rxbuf (s : State) : (resetBlock s).rxbuf = State.reset.rxbuf := rfl
@[simp] theorem resetBlock_phase (s : State) : (resetBlock s).phase = State.reset.phase := rfl
@[simp] theorem resetBlock_idx (s : State) : (resetBlock s).idx = State.reset.idx := rfl
@[simp] theorem resetBlock_timer (s : State) : (resetBlock s).timer = State.reset.timer := rfl
@[simp] theorem resetBlock_done (s : State) : (resetBlock s).done = State.reset.done := rfl
@[simp] theorem resetBlock_rClass (s : State) : (resetBlock s).rClass = State.reset.rClass := rfl
@[simp] theorem resetBlock_rCode (s : State) : (resetBlock s).rCode = State.reset.rCode := rfl
@[simp] theorem resetBlock_rArg (s : State) : (resetBlock s).rArg = State.reset.rArg := rfl
@[simp] theorem resetBlock_rFrame (s : State) : (resetBlock s).rFrame = State.reset.rFrame := rfl
@[simp] theorem resetBlock_rValue (s : State) : (resetBlock s).rValue = State.reset.rValue := rfl
@[simp] theorem resetBlock_rHasvalue (s : State) : (resetBlock s).rHasvalue = State.reset.rHasvalue := rfl
@[simp] theorem resetBlock_dAddress (s : State) : (resetBlock s).dAddress = State.reset.dAddress := rfl
@[simp] theorem resetBlock_dModule (s : State) : (resetBlock s).dModule = State.reset.dModule := rfl
@[simp] theorem resetBlock_dStatus (s : State) : (resetBlock s).dStatus = State.reset.dStatus := rfl
@[simp] theorem resetBlock_dCmd (s : State) : (resetBlock s).dCmd = State.reset.dCmd := rfl
@[simp] theorem resetBlock_dValue (s : State) : (resetBlock s).dValue = State.reset.dValue := rfl
@[simp] theorem resetBlock_dValid (s : State) : (resetBlock s).dValid = State.reset.dValid := rfl
@[simp] theorem resetBlock_txs (s : State) : (resetBlock s).txs = State.reset.txs := rfl
@[simp] theorem resetBlock_rxs (s : State) : (resetBlock s).rxs = State.reset.rxs := rfl
@[simp] theorem resetBlock_rxq (s : State) : (resetBlock s).rxq = State.reset.rxq := rfl

@[simp] theorem resetBlock_tpl (s : State) : (resetBlock s).tpl = s.tpl := rfl
@[simp] theorem resetBlock_linkUp (s : State) : (resetBlock s).linkUp = s.linkUp := rfl
@[simp] theorem resetBlock_pend (s : State) : (resetBlock s).pend = s.pend := rfl
@[simp] theorem resetBlock_inputs (s : State) : (resetBlock s).inputs = s.inputs := rfl
@[simp] theorem resetBlock_fresh (s : State) : (resetBlock s).fresh = s.fresh := rfl
@[simp] theorem resetBlock_inst (s : State) : (resetBlock s).inst = s.inst := rfl

end Sys2Proof.Machine
end

