-- ==== Sys2Proof/Laws/Ops.lean ====
section
/-! SUPPORT. What each shared operation can do, said once. -/

namespace Sys2Proof.Machine

/-- A start that answers a next state found the block idle (R160). -/
theorem whenIdle_next {s t : State} {f : State → State} (h : whenIdle s f = .next t) :
    s.phase = .idle ∧ t = f s := by
  unfold whenIdle at h
  split at h
  · exact ⟨‹_›, (Host.Outcome.next.inj h).symm⟩
  · cases h
  · cases h

theorem whenIdle_idle {s : State} (h : s.phase = .idle) (f : State → State) :
    whenIdle s f = .next (f s) := by
  simp only [whenIdle, h]

/-- While BUSY a start is refused (R160). -/
theorem whenIdle_busy {s : State} (h : s.phase ≠ .idle) (f : State → State) :
    whenIdle s f = .refused .busy := by
  unfold whenIdle
  split
  · exact absurd ‹_› h
  · rfl
  · rfl

theorem busy_iff (s : State) : s.busy = true ↔ s.phase ≠ .idle := by
  simp only [State.busy, decide_eq_true_eq]

/-- No wrong offset when IDX is at most 8 (R27). -/
theorem badOffset_false {s : State} (h : s.idx.toNat ≤ 8) : s.badOffset = false := by
  simp only [State.badOffset, Bool.and_eq_false_iff, decide_eq_false_iff_not]
  exact .inr (by omega)

theorem moving_ok {s : State} (h : s.idx.toNat ≤ 8) (f : State → State) :
    moving f s = .next (f s) := by
  simp only [moving, badOffset_false h, Bool.false_eq_true, if_false]

/-- The result registers after each ending (R311). -/
theorem endOp_none (s : State) :
    endOp .none s =
      { s with phase := .idle, idx := 0, done := true, rClass := .none, rCode := 0, rArg := 0,
               rHasvalue := false } := rfl

theorem endOp_locl (a : LocalArg) (s : State) :
    endOp (.locl a) s =
      { s with phase := .idle, idx := 0, done := true, rClass := .locl, rCode := 0,
               rArg := localArgId a, rHasvalue := false } := rfl

theorem endOp_transport (c : Cause) (s : State) :
    endOp (.transport c) s =
      { s with phase := .idle, idx := 0, done := true, rClass := .error,
               rCode := Config.errorCode, rArg := causeId c, rHasvalue := false } := rfl

theorem endOp_checksum (s : State) :
    endOp .checksum s =
      { s with phase := .idle, idx := 0, done := true, rClass := .error,
               rCode := Config.errorCode, rArg := 4, rHasvalue := false } := rfl

theorem endOp_wire (b : Byte) (v : Option Word32) (s : State) :
    endOp (.wire b v) s =
      { s with phase := .idle, idx := 0, done := true, rClass := .wire, rCode := b.setWidth 16,
               rArg := 0, rHasvalue := v.isSome, rValue := v.getD s.rValue } := by
  cases v <;> rfl

/-- The three ways an exchange starts (R165). -/
theorem startExchange_cases (c : Frame) (s : State) :
    (s.linkUp = false ∧ startExchange c s = endOp (.transport .linkDown) s) ∨
    (s.linkUp = true ∧ s.aTimeout = 0 ∧ startExchange c s = endOp (.transport .timeout) s) ∨
    (s.linkUp = true ∧ s.aTimeout ≠ 0 ∧
      startExchange c s =
        { s with phase := .tx, idx := 0, txbuf := c, lLimit := s.aTimeout, timer := 0 }) := by
  unfold startExchange
  split_ifs with h1 h2
  · exact .inl ⟨h1, rfl⟩
  · exact .inr (.inl ⟨by simpa using h1, h2, rfl⟩)
  · exact .inr (.inr ⟨by simpa using h1, h2, rfl⟩)

/-- The transmit step at each IDX below 8 (R166). -/
theorem txStep_more {s : State} {b : Byte} (hp : s.phase = .tx) (hi : s.idx ≠ 8)
    (hb : s.txbuf.byteAt s.idx.toNat = some b) :
    txStep s = { s with txs := s.txs ++ [b], phase := .tx, idx := s.idx + 1 } := by
  simp only [txStep, hp, hb, hi, if_false, State.setPc, linkPut]

/-- The last transmit step (R167). -/
theorem txStep_last {s : State} (hp : s.phase = .tx) (hi : s.idx = 8) :
    txStep s = { s with txs := s.txs ++ [s.txbuf.b8], phase := .rx, idx := 0 } := by
  have hb : s.txbuf.byteAt s.idx.toNat = some s.txbuf.b8 := by rw [hi]; rfl
  simp only [txStep, hp, hb]
  rw [if_pos hi]
  rfl

/-- No transmit step outside TX (R166, R178). -/
theorem txStep_other {s : State} (hp : s.phase ≠ .tx) : txStep s = s := by
  unfold txStep
  split
  · exact absurd ‹_› hp
  · rfl
  · rfl

/-- The receive step below offset 8 (R168). -/
theorem storeRx_more {s : State} (b : Byte) (hi : s.idx ≠ 8) :
    storeRx b s =
      { s with rxbuf := s.rxbuf.setByte s.idx.toNat b, phase := .rx, idx := s.idx + 1 } := by
  simp only [storeRx, hi, if_false, State.setPc]

/-- The ninth byte: the exchange completes (R172). -/
theorem storeRx_last {s : State} (b : Byte) (hi : s.idx = 8) :
    storeRx b s =
      complete { s with rxbuf := s.rxbuf.setByte 8 b, phase := .idle, idx := 0 } := by
  simp only [storeRx, hi, if_true, State.setPc]

/-- In the read phase the head of RXQ, or else the byte itself, is stored (R168). -/
theorem rxByte_rx {s : State} (b : Byte) (hp : s.phase = .rx) :
    rxByte b s =
      storeRx (s.rxq.headD b) { s with rxs := s.rxs ++ [b], rxq := (s.rxq ++ [b]).tail } := by
  cases hq : s.rxq <;> simp [rxByte, hp, hq, linkGet]

/-- Outside the read phase a byte is stale (R173). -/
theorem rxByte_other {s : State} (b : Byte) (hp : s.phase ≠ .rx) : rxByte b s = staleByte b s := by
  unfold rxByte
  split
  · exact absurd ‹_› hp
  · rfl
  · rfl

/-- A stale byte changes RXS and RXQ at most (R173). -/
theorem staleByte_cases (b : Byte) (s : State) :
    staleByte b s = { s with rxs := s.rxs ++ [b] } ∧ Config.rxStalePolicy = .discard ∨
    staleByte b s = { s with rxs := s.rxs ++ [b], rxq := s.rxq ++ [b] } ∧
      Config.rxStalePolicy = .queue ∨
    staleByte b s = s ∧ Config.rxStalePolicy = .queue := by
  unfold staleByte
  split
  · exact .inl ⟨rfl, ‹_›⟩
  · split
    · exact .inr (.inl ⟨rfl, ‹_›⟩)
    · exact .inr (.inr ⟨rfl, ‹_›⟩)

/-- The state after a failed exchange (R170, R171, R311). -/
theorem abort_eq (c : Cause) (s : State) :
    abort c s =
      { s with rxbuf := keepBytes s.bytesRead s.rxbuf (Config.freeFrame s.inst s.fresh)
               fresh := s.fresh + 1, phase := .idle, idx := 0, done := true, rClass := .error
               rCode := Config.errorCode, rArg := causeId c, rHasvalue := false } := rfl

/-- A link error in an exchange, and outside one (R171). -/
theorem linkError_busy {s : State} (hp : s.phase ≠ .idle) : linkError s = abort .linkError s := by
  unfold linkError
  split
  · exact absurd ‹_› hp
  · rfl
  · rfl

theorem linkError_idle {s : State} (hp : s.phase = .idle) : linkError s = s := by
  simp only [linkError, hp]

theorem tick_idle {s : State} (hp : s.phase = .idle) : tick s = s := by
  simp only [tick, hp]

/-- The tick in an exchange: the budget lasts, or the exchange expires (R169, R170). -/
theorem tick_cases (s : State) (hp : s.phase ≠ .idle) :
    (s.timer.toNat + 1 < s.lLimit.toNat ∧ tick s = { s with timer := s.timer + 1 }) ∨
    (s.lLimit.toNat ≤ s.timer.toNat + 1 ∧
      tick s = abort .timeout { s with timer := s.timer + 1 }) := by
  unfold tick
  split
  · exact absurd ‹_› hp
  all_goals
    split_ifs with h
    · exact .inr ⟨h, rfl⟩
    · exact .inl ⟨by simpa using h, rfl⟩

/-- What the next event is (R160, R162). -/
theorem nextEvent_cases (s : State) :
    (∃ st, s.pend = some st ∧ s.phase = .idle ∧
      nextEvent s = (.start st, { s with pend := none })) ∨
    (∃ i rest, s.inputs = i :: rest ∧ (s.pend = none ∨ s.phase ≠ .idle) ∧
      nextEvent s = (.input i, { s with inputs := rest })) ∨
    (s.inputs = [] ∧ (s.pend = none ∨ s.phase ≠ .idle) ∧
      nextEvent s = (.input (Config.oracle s.inst s.fresh), { s with fresh := s.fresh + 1 })) := by
  cases hp : s.pend <;> cases hph : s.phase <;> cases hi : s.inputs <;>
    simp [nextEvent, hp, hph, hi]

/-- A step that accepts a start (R160). -/
theorem step_start {s : State} {st : Start} (hp : s.pend = some st) (hi : s.phase = .idle) :
    step s = runStart st { s with pend := none } := by
  simp only [step, nextEvent, hp, hi, runEvent]

/-- A step that handles a waiting input (R162). -/
theorem step_input {s : State} {i : Input} {rest : List Input}
    (h : s.pend = none ∨ s.phase ≠ .idle) (hi : s.inputs = i :: rest) :
    step s = runInput i { s with inputs := rest } := by
  rcases nextEvent_cases s with ⟨st, h1, h2, _⟩ | ⟨j, r, h1, _, h3⟩ | ⟨h1, _⟩
  · rcases h with h | h
    · rw [h] at h1; cases h1
    · exact absurd h2 h
  · rw [hi] at h1
    cases h1
    rw [step, h3]
    rfl
  · rw [hi] at h1; cases h1

/-- A clock edge without reset in an exchange: its events alone (R160, R180). -/
theorem runEdge_busy {p : Pins} {s : State} (hr : p.rst = false) (hp : s.phase ≠ .idle)
    (hb : s.idx.toNat ≤ 8) : runEdge p s = .next (clockEdge p s) := by
  simp [runEdge, hr, hp, badOffset_false hb]

/-- A clock edge without reset at an idle block: an offered operation is accepted (R180). -/
theorem runEdge_idle {p : Pins} {s : State} (hr : p.rst = false) (hp : s.phase = .idle) :
    runEdge p s =
      if p.opValid then runStart .op (clockEdge p s) else .next (clockEdge p s) := by
  simp [runEdge, hr, hp, State.badOffset, State.busy]

/-- A clock edge with reset: the registers of R20 alone (R340). -/
theorem runEdge_rst {p : Pins} {s : State} (hr : p.rst = true) :
    runEdge p s = .next (clockEdge p s) := by
  simp [runEdge, hr]

end Sys2Proof.Machine
end

