-- ==== Sys2Proof/Laws/PerInstr.lean ====
section
/-! SUPPORT. Facts about every instruction as syntax, one lemma per constructor. -/

namespace Sys2Proof.Laws

/-- The encoder writes as many bytes as the instruction's port has (R108, R110). -/
def EncodeLength.Statement (i : Instr) : Prop := (encode i).length = i.port.bytes

theorem EncodeLength.cfgaddr (low : BitVec 5) : EncodeLength.Statement (.cfgaddr low) := rfl
theorem EncodeLength.encode (low : BitVec 5) : EncodeLength.Statement (.encode low) := rfl
theorem EncodeLength.decode (low : BitVec 5) : EncodeLength.Statement (.decode low) := rfl
theorem EncodeLength.build (kind : BitVec 5) : EncodeLength.Statement (.build kind) := rfl
theorem EncodeLength.execute (low : BitVec 5) : EncodeLength.Statement (.execute low) := rfl
theorem EncodeLength.sendMst : EncodeLength.Statement (.sendMst) := rfl
theorem EncodeLength.sendRor : EncodeLength.Statement (.sendRor) := rfl
theorem EncodeLength.sendRol : EncodeLength.Statement (.sendRol) := rfl
theorem EncodeLength.sendMvp : EncodeLength.Statement (.sendMvp) := rfl
theorem EncodeLength.sendGapos : EncodeLength.Statement (.sendGapos) := rfl
theorem EncodeLength.sendSapos : EncodeLength.Statement (.sendSapos) := rfl
theorem EncodeLength.sendGmres : EncodeLength.Statement (.sendGmres) := rfl
theorem EncodeLength.sendSmres : EncodeLength.Statement (.sendSmres) := rfl
theorem EncodeLength.sendSmaxc : EncodeLength.Statement (.sendSmaxc) := rfl
theorem EncodeLength.sendSstbc : EncodeLength.Statement (.sendSstbc) := rfl
theorem EncodeLength.sendSpdd : EncodeLength.Statement (.sendSpdd) := rfl
theorem EncodeLength.sendSintp : EncodeLength.Statement (.sendSintp) := rfl
theorem EncodeLength.sendSpdiv : EncodeLength.Statement (.sendSpdiv) := rfl
theorem EncodeLength.sendSrdiv : EncodeLength.Statement (.sendSrdiv) := rfl
theorem EncodeLength.sendSmaxa : EncodeLength.Statement (.sendSmaxa) := rfl
theorem EncodeLength.sendGiov : EncodeLength.Statement (.sendGiov) := rfl
theorem EncodeLength.sendGiot : EncodeLength.Statement (.sendGiot) := rfl
theorem EncodeLength.sendReserved17 : EncodeLength.Statement (.sendReserved17) := rfl
theorem EncodeLength.sendReserved18to19 (low : BitVec 1) : EncodeLength.Statement (.sendReserved18to19 low) := rfl
theorem EncodeLength.sendReserved20to23 (low : BitVec 2) : EncodeLength.Statement (.sendReserved20to23 low) := rfl
theorem EncodeLength.sendReserved24to31 (low : BitVec 3) : EncodeLength.Statement (.sendReserved24to31 low) := rfl
theorem EncodeLength.reserved6 (low : BitVec 5) : EncodeLength.Statement (.reserved6 low) := rfl
theorem EncodeLength.reserved7 (low : BitVec 5) : EncodeLength.Statement (.reserved7 low) := rfl
theorem EncodeLength.cmdMst (x : CmdFields) : EncodeLength.Statement (.cmdMst x) := rfl
theorem EncodeLength.cmdRor (x : CmdFields) : EncodeLength.Statement (.cmdRor x) := rfl
theorem EncodeLength.cmdRol (x : CmdFields) : EncodeLength.Statement (.cmdRol x) := rfl
theorem EncodeLength.cmdMvpAbs (x : CmdFields) : EncodeLength.Statement (.cmdMvpAbs x) := rfl
theorem EncodeLength.cmdMvpRel (x : CmdFields) : EncodeLength.Statement (.cmdMvpRel x) := rfl
theorem EncodeLength.cmdMvpCoord (coord : Byte) (x : CmdFields) : EncodeLength.Statement (.cmdMvpCoord coord x) := rfl
theorem EncodeLength.cmdGapos (x : CmdFields) : EncodeLength.Statement (.cmdGapos x) := rfl
theorem EncodeLength.cmdSapos (x : CmdFields) : EncodeLength.Statement (.cmdSapos x) := rfl
theorem EncodeLength.cmdGmres (x : CmdFields) : EncodeLength.Statement (.cmdGmres x) := rfl
theorem EncodeLength.cmdSmres (x : CmdFields) : EncodeLength.Statement (.cmdSmres x) := rfl
theorem EncodeLength.cmdSmaxc (x : CmdFields) : EncodeLength.Statement (.cmdSmaxc x) := rfl
theorem EncodeLength.cmdSstbc (x : CmdFields) : EncodeLength.Statement (.cmdSstbc x) := rfl
theorem EncodeLength.cmdSpdd (x : CmdFields) : EncodeLength.Statement (.cmdSpdd x) := rfl
theorem EncodeLength.cmdSintp (x : CmdFields) : EncodeLength.Statement (.cmdSintp x) := rfl
theorem EncodeLength.cmdSpdiv (x : CmdFields) : EncodeLength.Statement (.cmdSpdiv x) := rfl
theorem EncodeLength.cmdSrdiv (x : CmdFields) : EncodeLength.Statement (.cmdSrdiv x) := rfl
theorem EncodeLength.cmdSmaxa (x : CmdFields) : EncodeLength.Statement (.cmdSmaxa x) := rfl
theorem EncodeLength.cmdGiov (x : CmdFields) : EncodeLength.Statement (.cmdGiov x) := rfl
theorem EncodeLength.cmdGiot (x : CmdFields) : EncodeLength.Statement (.cmdGiot x) := rfl
theorem EncodeLength.rspWrongChecksum (x : RspFields) : EncodeLength.Statement (.rspWrongChecksum x) := rfl
theorem EncodeLength.rspInvalidCommand (x : RspFields) : EncodeLength.Statement (.rspInvalidCommand x) := rfl
theorem EncodeLength.rspWrongType (x : RspFields) : EncodeLength.Statement (.rspWrongType x) := rfl
theorem EncodeLength.rspInvalidValue (x : RspFields) : EncodeLength.Statement (.rspInvalidValue x) := rfl
theorem EncodeLength.rspConfigurationEEPROMLocked (x : RspFields) : EncodeLength.Statement (.rspConfigurationEEPROMLocked x) := rfl
theorem EncodeLength.rspCommandNotAvailable (x : RspFields) : EncodeLength.Statement (.rspCommandNotAvailable x) := rfl
theorem EncodeLength.rspSuccess (x : RspFields) : EncodeLength.Statement (.rspSuccess x) := rfl
theorem EncodeLength.rspCommandLoadedIntoEEPROM (x : RspFields) : EncodeLength.Statement (.rspCommandLoadedIntoEEPROM x) := rfl

end Sys2Proof.Laws
end

