-- ==== Sys2Proof/WellFormed.lean ====
section
/-! DEFINITION. Which instructions the spec calls legal. The machine runs the others too, with the
outcome the spec gives them (R107, R144, R161); this predicate only names the difference. -/

namespace Sys2Proof

/-- A legal command frame of a template: address 1 to 255 and the right checksum (R90, R140). -/
def CmdFields.wellFormed (t : Template) (x : CmdFields) : Bool :=
  decide (x.address ≠ 0) && (cmdFrame t x).valid

/-- A legal response frame of a status: the right checksum, nothing else (R91, R144). -/
def RspFields.wellFormed (status : Byte) (x : RspFields) : Bool := (rspFrame status x).valid

/-- Legal: no reserved word (R107), a kind of the closed set for BUILD (R100), a legal frame. -/
def Instr.wellFormed : Instr → Bool
  | .cfgaddr _ | .encode _ | .decode _ | .execute _ => true
  | .build kind => decide (kind.toNat ≤ 16)
  | .sendMst | .sendRor | .sendRol | .sendMvp | .sendGapos | .sendSapos | .sendGmres
  | .sendSmres | .sendSmaxc | .sendSstbc | .sendSpdd | .sendSintp | .sendSpdiv | .sendSrdiv
  | .sendSmaxa | .sendGiov | .sendGiot => true
  | .sendReserved17 | .sendReserved18to19 _ | .sendReserved20to23 _ | .sendReserved24to31 _ =>
    false
  | .reserved6 _ | .reserved7 _ => false
  | .cmdMst x => x.wellFormed TemplateTable.default.mst
  | .cmdRor x => x.wellFormed TemplateTable.default.ror
  | .cmdRol x => x.wellFormed TemplateTable.default.rol
  | .cmdMvpAbs x =>
    x.wellFormed ⟨TemplateTable.default.mvp.cmd, TemplateTable.default.mvtAbs, 0⟩
  | .cmdMvpRel x =>
    x.wellFormed ⟨TemplateTable.default.mvp.cmd, TemplateTable.default.mvtRel, 0⟩
  | .cmdMvpCoord coord x =>
    x.wellFormed ⟨TemplateTable.default.mvp.cmd, TemplateTable.default.mvtCoord, coord⟩
  | .cmdGapos x => x.wellFormed TemplateTable.default.gapos
  | .cmdSapos x => x.wellFormed TemplateTable.default.sapos
  | .cmdGmres x => x.wellFormed TemplateTable.default.gmres
  | .cmdSmres x => x.wellFormed TemplateTable.default.smres
  | .cmdSmaxc x => x.wellFormed TemplateTable.default.smaxc
  | .cmdSstbc x => x.wellFormed TemplateTable.default.sstbc
  | .cmdSpdd x => x.wellFormed TemplateTable.default.spdd
  | .cmdSintp x => x.wellFormed TemplateTable.default.sintp
  | .cmdSpdiv x => x.wellFormed TemplateTable.default.spdiv
  | .cmdSrdiv x => x.wellFormed TemplateTable.default.srdiv
  | .cmdSmaxa x => x.wellFormed TemplateTable.default.smaxa
  | .cmdGiov x => x.wellFormed TemplateTable.default.giov
  | .cmdGiot x => x.wellFormed TemplateTable.default.giot
  | .rspWrongChecksum x => x.wellFormed 1
  | .rspInvalidCommand x => x.wellFormed 2
  | .rspWrongType x => x.wellFormed 3
  | .rspInvalidValue x => x.wellFormed 4
  | .rspConfigurationEEPROMLocked x => x.wellFormed 5
  | .rspCommandNotAvailable x => x.wellFormed 6
  | .rspSuccess x => x.wellFormed 100
  | .rspCommandLoadedIntoEEPROM x => x.wellFormed 101

end Sys2Proof
end

