-- ==== Sys2Proof/Tests/Slice0.lean ====
section
/-! SUPPORT. The model's own tests. Expected results are the vectors of spec/95_test_vectors.md, whose
names (K1, A1, ...) stand in the docstrings, or words written out from 30_encoding.md. -/

namespace Sys2Proof.Tests

open Sys2Proof.Machine Sys2Proof.Safety

/-! ## Helpers -/

/-- A next state with this property. -/
def got (o : Host.Outcome State Fault Refusal) (p : State → Bool) : Bool :=
  match o with
  | .next t => p t
  | .fault _ => false
  | .refused _ => false

/-- Address 1 set, link open, a timeout: ready for a SEND. -/
def ready : State := { State.reset with devaddr := 1, cfg := true, linkUp := true, aTimeout := 100 }

/-- `ready` with a value operand. -/
def readyValue (v : Word32) : State := { ready with aValue := v }

/-- The command frame of X1. -/
def askFrame : Frame := ⟨0x01, 0x06, 0x01, 0x00, 0x00, 0x00, 0x00, 0x00, 0x08⟩

/-- An exchange of EXECUTE with X1's frame after three bytes: (TX, 3). -/
def sending : State :=
  { ready with lOp := 4, lLimit := 100, txbuf := askFrame, phase := .tx, idx := 3,
               txs := [0x01, 0x06, 0x01] }

/-- The same exchange in its last transmit step: (TX, 8). -/
def sendingLast : State :=
  { sending with idx := 8, txs := [0x01, 0x06, 0x01, 0x00, 0x00, 0x00, 0x00, 0x00] }

/-- The same exchange waiting for its response: (RX, 0). -/
def waiting : State := { sending with phase := .rx, idx := 0, txs := askFrame.toList }

/-- SEND.GAPOS waiting for its response: (RX, 0). -/
def waitingSend : State := { waiting with lOp := 5, lKind := 4 }

/-- EXECUTE with eight response bytes read: (RX, 8). -/
def lastByte : State :=
  { waiting with idx := 8, rxbuf := ⟨0x01, 0x02, 0x64, 0x06, 0x00, 0x00, 0x0C, 0x80, 0x00⟩ }

/-- SEND.GAPOS with eight response bytes read: (RX, 8). -/
def lastByteSend : State := { lastByte with lOp := 5, lKind := 4 }

/-- One motor with address 1 whose instance is idle with an ended SEND. -/
def motor (bias : Int) (dir : Dir) (job : Option Job) : Motor :=
  { Motor.create 0 dir with bias := bias, job := job, vcf := { ready with done := true } }

/-! ## Well-formedness: an ill-formed term for each check -/

/-- R107: reserved words. -/
theorem test_reserved_words_are_ill_formed :
    Instr.sendReserved17.wellFormed = false ∧ (Instr.sendReserved18to19 0).wellFormed = false ∧
    (Instr.sendReserved20to23 0).wellFormed = false ∧
    (Instr.sendReserved24to31 0).wellFormed = false ∧
    (Instr.reserved6 0).wellFormed = false ∧ (Instr.reserved7 0).wellFormed = false := by decide

/-- R100: BUILD of kind 17; kind 16 is the last legal one. -/
theorem test_build_kind_17_is_ill_formed :
    (Instr.build 17).wellFormed = false ∧ (Instr.build 16).wellFormed = true := by decide

/-- R90: a command frame with address 0, and one with a wrong checksum (K27's bytes, K2 with another
checksum); K2 itself is legal. -/
theorem test_bad_command_frames_are_ill_formed :
    (Instr.cmdRor ⟨0, 2049, 0x0A⟩).wellFormed = false ∧
    (Instr.cmdRor ⟨1, 2049, 0x1B⟩).wellFormed = false ∧
    (Instr.cmdRor ⟨1, 2049, 0x0B⟩).wellFormed = true := by decide

/-- R144: a response frame with a wrong checksum (K26); K20 is legal. -/
theorem test_bad_response_frame_is_ill_formed :
    (Instr.rspSuccess ⟨1, 2, 6, 100, 0xD2⟩).wellFormed = false ∧
    (Instr.rspSuccess ⟨1, 2, 6, 100, 0xD1⟩).wellFormed = true := by decide

/-! ## Decoding: a word written out for every row -/

/-- R110: `A_OP` at bits 7:5, `A_KIND` at 4:0; the operation codes. -/
theorem test_decode_operation_codes :
    decodeOp 0b00010101 = .cfgaddr 0b10101 ∧ decodeOp 0b00100011 = .encode 3 ∧
    decodeOp 0b01011111 = .decode 31 ∧ decodeOp 0b01100011 = .build 3 ∧
    decodeOp 0b10000000 = .execute 0 ∧ decodeOp 0b11000001 = .reserved6 1 ∧
    decodeOp 0b11110000 = .reserved7 16 := by decide

/-- R100, R110: SEND with kinds 0 to 8. -/
theorem test_decode_send_kinds_low :
    decodeOp 0b10100000 = .sendMst ∧ decodeOp 0b10100001 = .sendRor ∧
    decodeOp 0b10100010 = .sendRol ∧ decodeOp 0b10100011 = .sendMvp ∧
    decodeOp 0b10100100 = .sendGapos ∧ decodeOp 0b10100101 = .sendSapos ∧
    decodeOp 0b10100110 = .sendGmres ∧ decodeOp 0b10100111 = .sendSmres ∧
    decodeOp 0b10101000 = .sendSmaxc := by decide

/-- R100, R110: SEND with kinds 9 to 16. -/
theorem test_decode_send_kinds_high :
    decodeOp 0b10101001 = .sendSstbc ∧ decodeOp 0b10101010 = .sendSpdd ∧
    decodeOp 0b10101011 = .sendSintp ∧ decodeOp 0b10101100 = .sendSpdiv ∧
    decodeOp 0b10101101 = .sendSrdiv ∧ decodeOp 0b10101110 = .sendSmaxa ∧
    decodeOp 0b10101111 = .sendGiov ∧ decodeOp 0b10110000 = .sendGiot := by decide

/-- R107: the reserved SEND kinds 17, 19, 22 and 31. -/
theorem test_decode_send_reserved :
    decodeOp 0b10110001 = .sendReserved17 ∧ decodeOp 0b10110011 = .sendReserved18to19 1 ∧
    decodeOp 0b10110110 = .sendReserved20to23 2 ∧ decodeOp 0b10111111 = .sendReserved24to31 7 := by
  decide

/-- Q40 to Q45: the command frames of stop, rotate and the three moves. -/
theorem test_decode_command_frames_moves :
    decodeCmd ⟨0x01, 0x03, 0x00, 0x00, 0x00, 0x00, 0x00, 0x00, 0x04⟩ = .ok (.cmdMst ⟨1, 0, 4⟩) ∧
    decodeCmd ⟨0x01, 0x01, 0x00, 0x00, 0x00, 0x00, 0x01, 0xF4, 0xF7⟩ =
      .ok (.cmdRor ⟨1, 500, 0xF7⟩) ∧
    decodeCmd ⟨0x01, 0x02, 0x00, 0x00, 0x00, 0x00, 0x00, 0x64, 0x67⟩ =
      .ok (.cmdRol ⟨1, 100, 0x67⟩) ∧
    decodeCmd ⟨0x01, 0x04, 0x00, 0x00, 0x00, 0x00, 0x0C, 0x80, 0x91⟩ =
      .ok (.cmdMvpAbs ⟨1, 3200, 0x91⟩) ∧
    decodeCmd ⟨0x01, 0x04, 0x01, 0x00, 0xFF, 0xFF, 0xFF, 0xFF, 0x02⟩ =
      .ok (.cmdMvpRel ⟨1, 0xFFFFFFFF, 2⟩) ∧
    decodeCmd ⟨0x01, 0x04, 0x02, 0x03, 0x12, 0x34, 0x56, 0x78, 0x1E⟩ =
      .ok (.cmdMvpCoord 3 ⟨1, 0x12345678, 0x1E⟩) := by decide

/-- Q46 to Q51. -/
theorem test_decode_command_frames_parameters :
    decodeCmd ⟨0x01, 0x06, 0x01, 0x00, 0x00, 0x00, 0x00, 0x00, 0x08⟩ = .ok (.cmdGapos ⟨1, 0, 8⟩) ∧
    decodeCmd ⟨0x01, 0x05, 0x01, 0x00, 0x00, 0x00, 0x00, 0x00, 0x07⟩ = .ok (.cmdSapos ⟨1, 0, 7⟩) ∧
    decodeCmd ⟨0x01, 0x06, 0x8C, 0x00, 0x00, 0x00, 0x00, 0x00, 0x93⟩ =
      .ok (.cmdGmres ⟨1, 0, 0x93⟩) ∧
    decodeCmd ⟨0x01, 0x05, 0x8C, 0x00, 0x00, 0x00, 0x00, 0x08, 0x9A⟩ =
      .ok (.cmdSmres ⟨1, 8, 0x9A⟩) ∧
    decodeCmd ⟨0x01, 0x05, 0x06, 0x00, 0x00, 0x00, 0x00, 0x80, 0x8C⟩ =
      .ok (.cmdSmaxc ⟨1, 128, 0x8C⟩) ∧
    decodeCmd ⟨0x01, 0x05, 0x07, 0x00, 0x00, 0x00, 0x00, 0x08, 0x15⟩ =
      .ok (.cmdSstbc ⟨1, 8, 0x15⟩) := by decide

/-- Q52 to Q58. -/
theorem test_decode_command_frames_rest :
    decodeCmd ⟨0x01, 0x05, 0xD6, 0x00, 0x00, 0x00, 0x00, 0xC8, 0xA4⟩ =
      .ok (.cmdSpdd ⟨1, 200, 0xA4⟩) ∧
    decodeCmd ⟨0x01, 0x05, 0xA0, 0x00, 0x00, 0x00, 0x00, 0x01, 0xA7⟩ =
      .ok (.cmdSintp ⟨1, 1, 0xA7⟩) ∧
    decodeCmd ⟨0x01, 0x05, 0x9A, 0x00, 0x00, 0x00, 0x00, 0x03, 0xA3⟩ =
      .ok (.cmdSpdiv ⟨1, 3, 0xA3⟩) ∧
    decodeCmd ⟨0x01, 0x05, 0x99, 0x00, 0x00, 0x00, 0x00, 0x07, 0xA6⟩ =
      .ok (.cmdSrdiv ⟨1, 7, 0xA6⟩) ∧
    decodeCmd ⟨0x01, 0x05, 0x05, 0x00, 0x00, 0x00, 0x01, 0xF4, 0x00⟩ =
      .ok (.cmdSmaxa ⟨1, 500, 0⟩) ∧
    decodeCmd ⟨0x01, 0x0F, 0x08, 0x01, 0x00, 0x00, 0x00, 0x00, 0x19⟩ = .ok (.cmdGiov ⟨1, 0, 0x19⟩) ∧
    decodeCmd ⟨0x01, 0x0F, 0x09, 0x01, 0x00, 0x00, 0x00, 0x00, 0x1A⟩ =
      .ok (.cmdGiot ⟨1, 0, 0x1A⟩) := by decide

/-- X9, K22, Q6, K20, Q7 and two statuses of R104: the response frames. -/
theorem test_decode_response_frames :
    decodeRsp ⟨0x01, 0x02, 0x01, 0x06, 0x00, 0x00, 0x00, 0x00, 0x0A⟩ =
      .ok (.rspWrongChecksum ⟨1, 2, 6, 0, 0x0A⟩) ∧
    decodeRsp ⟨0x01, 0x02, 0x02, 0x06, 0x00, 0x00, 0x00, 0x00, 0x0B⟩ =
      .ok (.rspInvalidCommand ⟨1, 2, 6, 0, 0x0B⟩) ∧
    decodeRsp ⟨0x01, 0x02, 0x03, 0x06, 0x00, 0x00, 0x00, 0x00, 0x0C⟩ =
      .ok (.rspWrongType ⟨1, 2, 6, 0, 0x0C⟩) ∧
    decodeRsp ⟨0x02, 0x01, 0x04, 0x05, 0x00, 0x00, 0x00, 0x09, 0x15⟩ =
      .ok (.rspInvalidValue ⟨2, 1, 5, 9, 0x15⟩) ∧
    decodeRsp ⟨0x01, 0x02, 0x05, 0x06, 0x00, 0x00, 0x00, 0x00, 0x0E⟩ =
      .ok (.rspConfigurationEEPROMLocked ⟨1, 2, 6, 0, 0x0E⟩) ∧
    decodeRsp ⟨0x01, 0x02, 0x06, 0x06, 0x00, 0x00, 0x00, 0x00, 0x0F⟩ =
      .ok (.rspCommandNotAvailable ⟨1, 2, 6, 0, 0x0F⟩) ∧
    decodeRsp ⟨0x01, 0x02, 0x64, 0x06, 0x00, 0x00, 0x00, 0x64, 0xD1⟩ =
      .ok (.rspSuccess ⟨1, 2, 6, 100, 0xD1⟩) ∧
    decodeRsp ⟨0x01, 0x02, 0x65, 0x05, 0x00, 0x00, 0x00, 0x08, 0x75⟩ =
      .ok (.rspCommandLoadedIntoEEPROM ⟨1, 2, 5, 8, 0x75⟩) := by decide

/-- R106: status 7 (Q8) has no row; a template of no row is refused by name too; so are short
bytes. -/
theorem test_decode_refuses_by_name :
    decodeRsp ⟨0x02, 0x01, 0x07, 0x01, 0x00, 0x00, 0x00, 0x00, 0x0B⟩ = .error (.unnamedStatus 7) ∧
    decodeCmd ⟨0x01, 0x05, 0x02, 0x00, 0x00, 0x00, 0x00, 0x00, 0x08⟩ =
      .error (.unknownTemplate 5 2 0) ∧
    decodeBytes .cmd [0x01, 0x05] = .error .truncated ∧ decodeBytes .op [] = .error .truncated := by
  decide

/-- K15 as the 72-bit word of R10, an operation word, and a width no row has. -/
theorem test_table_words :
    decodeTableWord 72 0x01040203123456781E = some (.cmdMvpCoord 3 ⟨1, 0x12345678, 0x1E⟩) ∧
    decodeTableWord 8 0xA4 = some .sendGapos ∧ decodeTableWord 16 0 = none := by decide

/-- R101, R102: the default table's triples are pairwise distinct. -/
theorem test_default_templates_are_distinct : TemplateTable.default.distinct = true := by decide

/-! ## The codec -/

/-- K4, K6, K10, K14, K15, K16. -/
theorem test_encode_frames :
    encodeFrame 255 255 255 255 0xFFFFFFFF =
      ⟨0xFF, 0xFF, 0xFF, 0xFF, 0xFF, 0xFF, 0xFF, 0xFF, 0xF8⟩ ∧
    encodeFrame 1 4 0 0 (u32 (-2147483648)) =
      ⟨0x01, 0x04, 0x00, 0x00, 0x80, 0x00, 0x00, 0x00, 0x85⟩ ∧
    encodeFrame 128 128 0 0 0 = ⟨0x80, 0x80, 0, 0, 0, 0, 0, 0, 0⟩ ∧
    encodeFrame 0 0 0 0 0 = ⟨0, 0, 0, 0, 0, 0, 0, 0, 0⟩ ∧
    encodeFrame 1 4 2 3 305419896 = ⟨0x01, 0x04, 0x02, 0x03, 0x12, 0x34, 0x56, 0x78, 0x1E⟩ ∧
    encodeFrame 1 1 0 0 (u32 (-2049)) =
      ⟨0x01, 0x01, 0x00, 0x00, 0xFF, 0xFF, 0xF7, 0xFF, 0xF6⟩ := by decide

/-- K26 to K32: what the checksum detects and what it does not. -/
theorem test_validity :
    Frame.valid ⟨0x01, 0x02, 0x64, 0x06, 0x00, 0x00, 0x00, 0x64, 0xD2⟩ = false ∧
    Frame.valid ⟨0x00, 0x01, 0x00, 0x00, 0x00, 0x00, 0x08, 0x01, 0x0B⟩ = false ∧
    Frame.valid ⟨0x01, 0x01, 0x00, 0x00, 0x00, 0x00, 0x08, 0x01, 0x1B⟩ = false ∧
    Frame.valid ⟨0x02, 0x00, 0x00, 0x00, 0x00, 0x00, 0x08, 0x01, 0x0B⟩ = true ∧
    Frame.valid ⟨0x01, 0x01, 0x00, 0x00, 0x00, 0x00, 0x01, 0x08, 0x0B⟩ = true := by decide

/-- K15 through ENCODE as an instruction: an address above 255 gives its low byte (R142). -/
theorem test_encode_instruction :
    got (exec (.encode 0) { State.reset with
        aAddr := 0x0101, aCmd := 4, aType := 2, aMotor := 3, aValue := 305419896 })
      (fun t => t.rFrame == ⟨0x01, 0x04, 0x02, 0x03, 0x12, 0x34, 0x56, 0x78, 0x1E⟩ &&
        t.rClass == .none && t.done && t.lOp == 1) = true := by decide

/-- K21: DECODE as an instruction; the value read signed is -100. -/
theorem test_decode_instruction :
    got (exec (.decode 5) { State.reset with
        aFrame := ⟨0x01, 0x02, 0x64, 0x06, 0xFF, 0xFF, 0xFF, 0x9C, 0x06⟩ })
      (fun t => t.dAddress == 1 && t.dModule == 2 && t.dStatus == 100 && t.dCmd == 6 &&
        s32 t.dValue == -100 && t.dValid) = true := by decide

/-- R61, R65: the value word read from a frame space, one byte of it, and an access no frame has. -/
theorem test_frame_space_reads :
    State.memRead { State.reset with rxbuf := ⟨1, 2, 100, 6, 0x12, 0x34, 0x56, 0x78, 0⟩ } .r 4 4 =
      some 0x12345678 ∧
    State.memRead { State.reset with txbuf := askFrame } .t 8 1 = some 8 ∧
    State.memRead State.reset .t 9 1 = none ∧ State.memRead State.reset .t 5 4 = none := by decide

/-! ## The client -/

/-- A2 to A5: the address range on all 16 bits. -/
theorem test_cfgaddr_range :
    (got (exec (.cfgaddr 0) { State.reset with aAddr := 255 })
      fun t => t.cfg && t.devaddr == 255 && t.rClass == .none) = true ∧
    (got (exec (.cfgaddr 0) { State.reset with aAddr := 0 })
      fun t => !t.cfg && t.rClass == .locl && t.rArg == 3) = true ∧
    (got (exec (.cfgaddr 0) { State.reset with aAddr := 257 })
      fun t => !t.cfg && t.rClass == .locl && t.rArg == 3) = true := by decide

/-- A6, A7: a second address is refused before its range is looked at. -/
theorem test_cfgaddr_only_once :
    (got (exec (.cfgaddr 0) { ready with aAddr := 2 })
      fun t => t.devaddr == 1 && t.rArg == 7) = true ∧
    (got (exec (.cfgaddr 0) { ready with aAddr := 0 })
      fun t => t.devaddr == 1 && t.rArg == 7) = true := by decide

/-- B2, B4, B8: BUILD of a move, of a coordinate move, and with a value out of range. -/
theorem test_build_frames :
    (got (exec (.build 3) { readyValue 3200 with aMvt := 0, aCoord := 9 })
      fun t => t.rFrame == ⟨0x01, 0x04, 0x00, 0x00, 0x00, 0x00, 0x0C, 0x80, 0x91⟩) = true ∧
    (got (exec (.build 3) { ready with aMvt := 2, aCoord := 255 })
      fun t => t.rFrame == ⟨0x01, 0x04, 0x02, 0xFF, 0x00, 0x00, 0x00, 0x00, 0x06⟩) = true ∧
    (got (exec (.build 1) (readyValue 2050))
      fun t => t.rFrame == ⟨0x01, 0x01, 0x00, 0x00, 0x00, 0x00, 0x08, 0x02, 0x0C⟩ &&
        t.rClass == .none) = true := by decide

/-- B5, B7, B9: BUILD's rejections in their order. -/
theorem test_build_rejections :
    (got (exec (.build 3) { ready with aMvt := 3 }) fun t => t.rArg == 5 && t.rClass == .locl) =
      true ∧
    (got (exec (.build 1) State.reset) fun t => t.rArg == 6 && t.rClass == .locl) = true ∧
    (got (exec (.build 17) State.reset) fun t => t.rArg == 8 && t.rClass == .locl) = true := by decide

/-- Q40 to Q49: the frame each SEND puts in TXBUF. -/
theorem test_send_frames_low :
    (got (exec .sendMst ready) (·.txbuf == ⟨0x01, 0x03, 0, 0, 0, 0, 0, 0, 0x04⟩) &&
    got (exec .sendRor (readyValue 500)) (·.txbuf == ⟨0x01, 0x01, 0, 0, 0, 0, 0x01, 0xF4, 0xF7⟩) &&
    got (exec .sendRol (readyValue 100)) (·.txbuf == ⟨0x01, 0x02, 0, 0, 0, 0, 0, 0x64, 0x67⟩) &&
    got (exec .sendMvp { readyValue 305419896 with aMvt := 2, aCoord := 3 })
      (·.txbuf == ⟨0x01, 0x04, 0x02, 0x03, 0x12, 0x34, 0x56, 0x78, 0x1E⟩) &&
    got (exec .sendGapos ready) (·.txbuf == askFrame) &&
    got (exec .sendSapos ready) (·.txbuf == ⟨0x01, 0x05, 0x01, 0, 0, 0, 0, 0, 0x07⟩) &&
    got (exec .sendGmres ready) (·.txbuf == ⟨0x01, 0x06, 0x8C, 0, 0, 0, 0, 0, 0x93⟩) &&
    got (exec .sendSmres (readyValue 8)) (·.txbuf == ⟨0x01, 0x05, 0x8C, 0, 0, 0, 0, 8, 0x9A⟩)) =
      true := by decide

/-- Q50 to Q58. -/
theorem test_send_frames_high :
    (got (exec .sendSmaxc (readyValue 128)) (·.txbuf == ⟨0x01, 0x05, 0x06, 0, 0, 0, 0, 0x80, 0x8C⟩) &&
    got (exec .sendSstbc (readyValue 8)) (·.txbuf == ⟨0x01, 0x05, 0x07, 0, 0, 0, 0, 0x08, 0x15⟩) &&
    got (exec .sendSpdd (readyValue 200)) (·.txbuf == ⟨0x01, 0x05, 0xD6, 0, 0, 0, 0, 0xC8, 0xA4⟩) &&
    got (exec .sendSintp (readyValue 1)) (·.txbuf == ⟨0x01, 0x05, 0xA0, 0, 0, 0, 0, 0x01, 0xA7⟩) &&
    got (exec .sendSpdiv (readyValue 3)) (·.txbuf == ⟨0x01, 0x05, 0x9A, 0, 0, 0, 0, 0x03, 0xA3⟩) &&
    got (exec .sendSrdiv (readyValue 7)) (·.txbuf == ⟨0x01, 0x05, 0x99, 0, 0, 0, 0, 0x07, 0xA6⟩) &&
    got (exec .sendSmaxa (readyValue 500)) (·.txbuf == ⟨0x01, 0x05, 0x05, 0, 0, 0, 0x01, 0xF4, 0⟩) &&
    got (exec .sendGiov ready) (·.txbuf == ⟨0x01, 0x0F, 0x08, 0x01, 0, 0, 0, 0, 0x19⟩) &&
    got (exec .sendGiot ready) (·.txbuf == ⟨0x01, 0x0F, 0x09, 0x01, 0, 0, 0, 0, 0x1A⟩)) = true := by
  decide

/-- Q11, Q12, Q16, Q19, Q28: the boundaries of SEND's checks, and RESULT. -/
theorem test_send_boundaries :
    (got (exec .sendRor (readyValue (u32 (-2049))))
      (·.txbuf == ⟨0x01, 0x01, 0, 0, 0xFF, 0xFF, 0xF7, 0xFF, 0xF6⟩) &&
    got (exec .sendRor (readyValue 2050)) (·.result == 0x040002) &&
    got (exec .sendRor (readyValue 0x80000000)) (·.result == 0x040002) &&
    got (exec .sendSmres (readyValue 0)) (·.result == 0x080002) &&
    got (exec .sendRor { readyValue 2050 with linkUp := false }) (·.result == 0x040002)) = true := by
  decide

/-- Q22, Q24, Q25, Q26: the other local rejections, and RESULT. -/
theorem test_send_rejections :
    (got (exec .sendMvp { ready with aMvt := 7 }) (·.result == 0x140002) &&
    got (exec .sendRor { readyValue 2050 with cfg := false }) (·.result == 0x180002) &&
    got (exec (.sendReserved20to23 0) ready) (·.result == 0x200002) &&
    got (exec (.reserved6 0) ready) (·.result == 0x240002)) = true := by decide

/-! ## The exchange -/

/-- X1's start: (TX, 0), DONE 0. -/
theorem test_execute_starts :
    got (exec (.execute 0) { ready with aFrame := askFrame })
      (fun t => t.phase == .tx && t.idx == 0 && t.txbuf == askFrame && t.lLimit == 100 && !t.done) =
      true := by decide

/-- X6, X7, X8: no link, no budget, neither. -/
theorem test_execute_without_link_or_budget :
    (got (exec (.execute 0) { ready with linkUp := false })
      (fun t => t.rClass == .error && t.rArg == 3 && t.txs == []) &&
    got (exec (.execute 0) { ready with aTimeout := 0 }) (fun t => t.rClass == .error && t.rArg == 1) &&
    got (exec (.execute 0) { ready with linkUp := false, aTimeout := 0 })
      (fun t => t.rClass == .error && t.rArg == 3)) = true := by decide

/-- X12: no start while busy. -/
theorem test_no_start_while_busy :
    (match exec (.cfgaddr 0) waiting with | .refused .busy => true | _ => false) = true := by decide

/-- R166, R167: one byte, and the ninth. -/
theorem test_transmit_steps :
    (got (step { sending with inputs := [.linkTakes] })
      (fun t => t.txs == [1, 6, 1, 0] && t.idx == 4 && t.phase == .tx) &&
    got (step { sendingLast with inputs := [.linkTakes] })
      (fun t => t.txs == askFrame.toList && t.idx == 0 && t.phase == .rx)) = true := by decide

/-- P2, last row, with R22: the ninth byte ends SEND.GAPOS. -/
theorem test_send_completes :
    got (step { lastByteSend with inputs := [.rxByte 0xF9] })
      (fun t => t.result == 0x400190 && t.rValue == 3200 && t.dModule == 2 && t.dCmd == 6 &&
        t.statusreg == 0x006) = true := by decide

/-- Q5: the same with a wrong checksum: cause 4, no value, the bytes surfaced. -/
theorem test_send_wrong_checksum :
    got (step { lastByteSend with inputs := [.rxByte 0x07] })
      (fun t => t.rClass == .error && t.rArg == 4 && !t.rHasvalue && !t.dValid &&
        t.rFrame.b8 == 7) = true := by decide

/-- X10: EXECUTE does not check. -/
theorem test_execute_does_not_check :
    got (step { lastByte with inputs := [.rxByte 0x00] })
      (fun t => t.rClass == .none && t.rFrame.b7 == 0x80 && t.rFrame.b8 == 0 && t.done) = true := by
  decide

/-- R168: a byte waiting in RXQ counts as arriving first. -/
theorem test_queued_byte_first :
    got (step { waiting with rxq := [0xAA], inputs := [.rxByte 0xBB] })
      (fun t => t.rxbuf.b0 == 0xAA && t.rxq == [0xBB] && t.idx == 1) = true := by decide

/-- X3's expiry: the third of three ticks. -/
theorem test_timeout :
    got (step { sending with lLimit := 3, timer := 2, inputs := [.tick] })
      (fun t => t.rClass == .error && t.rArg == 1 && t.phase == .idle && t.txs == [1, 6, 1] &&
        t.timer == 3) = true := by decide

/-- X5: a link error. -/
theorem test_link_error :
    got (step { waiting with idx := 5, inputs := [.linkErr] })
      (fun t => t.rClass == .error && t.rArg == 2 && t.phase == .idle && t.done) = true := by decide

/-- X11: the ninth byte and the expiring tick at one edge: the byte wins (R174). -/
theorem test_byte_before_tick :
    got (step { lastByte with timer := 99, inputs :=
        [.edge ⟨false, false, false, some 0xF9, true, false, true⟩] })
      (fun t => t.rClass == .none && t.done) = true := by decide

/-- R180: an edge with op_valid and op_ready accepts the operation in that cycle. -/
theorem test_edge_accepts_start :
    got (step { State.reset with aOp := 0, aAddr := 5, inputs :=
        [.edge ⟨false, true, false, none, true, false, false⟩] })
      (fun t => t.cfg && t.devaddr == 5 && t.done && t.linkUp && t.pend == none) = true := by decide

/-- R160, R180: an edge with op_valid while busy accepts nothing and leaves nothing pending, also when
its ninth byte ends the exchange. -/
theorem test_edge_while_busy :
    got (step { lastByte with aOp := 0, inputs :=
        [.edge ⟨false, true, false, some 0xF9, true, false, false⟩] })
      (fun t => t.phase == .idle && t.rClass == .none && t.lOp == 4 && t.pend == none) = true := by
  decide

/-- R180: an edge without op_valid takes a presentation down. -/
theorem test_edge_without_op_valid :
    got (step { waiting with pend := some .op, inputs :=
        [.edge ⟨false, false, false, none, true, false, false⟩] })
      (fun t => t.pend == none && t.phase == .rx) = true := by decide

/-- R22: STATUSREG of a configured instance at (TX, 3) and (RX, 0) of X1. -/
theorem test_statusreg :
    sending.statusreg = 0x06D ∧ waiting.statusreg = 0x015 := by decide

/-- R341: rst in the middle of an exchange: no outcome, DONE 0, the block idle. -/
theorem test_reset_drops :
    got (step { waiting with idx := 4, inputs := [.rst] })
      (fun t => t.phase == .idle && t.idx == 0 && !t.done && !t.cfg && t.txs == []) = true := by decide

/-- The command frame K2 as one instruction: nine bytes on TXS, then the read phase. -/
theorem test_command_frame :
    got (exec (.cmdRor ⟨1, 2049, 0x0B⟩) ready)
      (fun t => t.txs == [0x01, 0x01, 0, 0, 0, 0, 0x08, 0x01, 0x0B] && t.phase == .rx && t.idx == 0) =
      true := by decide

/-- Q4 as one instruction. -/
theorem test_response_frame :
    got (exec (.rspSuccess ⟨1, 2, 6, 0xFFFFFF9C, 0x06⟩) waitingSend)
      (fun t => t.result == 0x400190 && t.rValue == 0xFFFFFF9C && s32 t.rValue == -100) = true := by
  decide

/-- Q2 with another kind of the same shape: status 4, no value for a set kind. -/
theorem test_response_frame_without_value :
    got (exec (.rspInvalidValue ⟨1, 2, 5, 9, 0x15⟩) { waitingSend with lKind := 7 })
      (fun t => t.result == 0x000010 && !t.rHasvalue) = true := by decide

/-- A word of each encoding placed where the step fetches runs as the first step after reset. -/
theorem test_first_step_after_reset :
    (got (step (State.reset.withFetchWord 8 0x20)) (fun t => t.lOp == 1 && t.done) &&
    got (step (State.reset.withFetchWord 72 0x010300000000000004))
      (fun t => t.lOp == 4 && t.rClass == .error && t.rArg == 3) &&
    got (step (State.reset.withFetchWord 72 0x01026406000000006D))
      (fun t => t.rClass == .wire && t.rCode == 100 && t.done)) = true := by decide

/-! ## The host layer -/

/-- H1, H5, H6, H9, H11, H16, H18. -/
theorem test_move_targets :
    moveTarget 3200 500 100 0 = 3200 ∧ moveTarget 3200 (-500) 100 90 = -2400 ∧
    moveTarget 3200 500 100 (-90) = -800 ∧ moveTarget 3200 (-500) (-100) 0 = -3200 ∧
    moveTarget 3200 0 0 (-360) = -3200 ∧ moveTarget 3200 (-1) (-100) 359 = -9 ∧
    moveTarget 3200 (-500) (-3300) (-180) = -1600 := by decide

/-- M2, M3, M7, M9. -/
theorem test_move_deltas :
    moveDelta 3200 1 = 8 ∧ moveDelta 3200 (-1) = -8 ∧ moveDelta 3200 7 = 62 ∧
    moveDelta 3200 (-359) = -3191 := by decide

/-- T2, T4, T5, T7. -/
theorem test_rotate_commands :
    rotateCmd .right (-2049) = .ok (⟨.rol, none, 2049⟩, -2049) ∧
    rotateCmd .left (-500) = .ok (⟨.ror, none, 500⟩, 500) ∧
    rotateCmd .right 0 = .ok (⟨.ror, none, 0⟩, 0) ∧
    rotateCmd .right (-2050) = .error .velocity := by decide

/-- M12, H23: angles out of range. -/
theorem test_angle_range :
    hostBegin 3200 .right 5 (.moveByAngle 361) = .finish (.rejected .angle) 5 ∧
    hostBegin 3200 .right 5 (.moveToAngle (-361)) = .finish (.rejected .angle) 5 := by decide

/-- R72, R318: an event at motor 1's transport waits at motor 1 only; its instance has its own
number. -/
theorem test_own_transport :
    (match (System.create [.right, .left]).step (.input 1 .tick) with
      | .next t => t.motors.map (fun m => (m.vcf.inputs.length, m.vcf.inst)) == [(0, 0), (1, 1)] &&
          t.selOut == none
      | _ => false) = true := by decide

/-- P6, row 3: the selector and an index no motor has. -/
theorem test_selector :
    (match (System.create [.right, .left]).step (.present 2 .op) with
      | .next t => t.selOut == some .motorIndex && t.motors.length == 2
      | _ => false) = true := by decide

/-! ## Witnesses: concrete states and operands that meet the hypotheses of the statements, one
theorem per statement that has hypotheses; each clause at the ends of its range -/

/-- K2 (95_test_vectors.md). -/
def k2 : Frame := ⟨0x01, 0x01, 0x00, 0x00, 0x00, 0x00, 0x08, 0x01, 0x0B⟩

/-- K20, a valid response. -/
def k20 : Frame := ⟨0x01, 0x02, 0x64, 0x06, 0x00, 0x00, 0x00, 0x64, 0xD1⟩

theorem test_witness_EncodeMakesTheFrame : State.reset.phase = .idle := by decide

theorem test_witness_DecodeWritesSixOutputs : ready.phase = .idle := by decide

theorem test_witness_DecodeOfEncodeReturnsTheFields : (readyValue 7).phase = .idle := by decide

theorem test_witness_SingleBitFlipIsDetected :
    k2.valid = true ∧ 0 < 8 ∧ 7 < 8 ∧ k2.byteAt 0 = some 1 ∧ k2.byteAt 8 = some 0x0B := by decide

theorem test_witness_CfgaddrSetsTheAddressOnce :
    ready.phase = .idle ∧ ready.cfg = true ∧ State.reset.phase = .idle ∧ State.reset.cfg = false ∧
    (0 : BitVec 16).toNat = 0 ∧ 256 ≤ (256 : BitVec 16).toNat ∧
    ¬ ((1 : BitVec 16).toNat = 0 ∨ 256 ≤ (1 : BitVec 16).toNat) ∧
    ¬ ((255 : BitVec 16).toNat = 0 ∨ 256 ≤ (255 : BitVec 16).toNat) := by decide

theorem test_witness_BuildMakesTheCommandFrame :
    ready.phase = .idle ∧ ready.cfg = true ∧ Kind.mst ≠ .mvp ∧ Kind.giot ≠ .mvp := by decide

theorem test_witness_BuildOfAMoveFollowsItsType :
    ready.phase = .idle ∧ ready.cfg = true ∧ 3 ≤ ({ ready with aMvt := 3 }).aMvt.toNat ∧
    ¬ 3 ≤ ({ ready with aMvt := 2 }).aMvt.toNat ∧ ({ ready with aMvt := 1 }).aMvt = 1 := by decide

theorem test_witness_BuildRejectsKindThenAddress :
    State.reset.phase = .idle ∧ 16 < (17 : BitVec 5).toNat ∧ 16 < (31 : BitVec 5).toNat ∧
    ¬ 16 < (16 : BitVec 5).toNat ∧ State.reset.cfg = false := by decide

theorem test_witness_SendStartsAnExchange :
    (∀ v ∈ ([-2049, 2049] : List Int), (readyValue (u32 v)).phase = .idle ∧
      (readyValue (u32 v)).cfg = true ∧ (readyValue (u32 v)).linkUp = true ∧
      (readyValue (u32 v)).aTimeout ≠ 0 ∧ Kind.ror ≠ .mvp ∧
      -2049 ≤ (readyValue (u32 v)).aValue.toInt ∧ (readyValue (u32 v)).aValue.toInt ≤ 2049) ∧
    (∀ v ∈ ([1, 8] : List Int), Kind.smres ≠ .mvp ∧ 1 ≤ (readyValue (u32 v)).aValue.toInt ∧
      (readyValue (u32 v)).aValue.toInt ≤ 8) ∧ Kind.mst ≠ .mvp := by decide

theorem test_witness_SendOfAMoveStartsAnExchange :
    ∀ m ∈ ([0, 1, 2] : List Byte), ready.phase = .idle ∧ ready.cfg = true ∧ ready.linkUp = true ∧
      ready.aTimeout ≠ 0 ∧ ({ ready with aMvt := m }).aMvt.toNat ≤ 2 := by decide

theorem test_witness_SendRejectsOutOfRangeArguments :
    ready.phase = .idle ∧ ready.cfg = true ∧ (readyValue (u32 (-2050))).aValue.toInt < -2049 ∧
    2049 < (readyValue 2050).aValue.toInt ∧ (readyValue 0).aValue.toInt < 1 ∧
    8 < (readyValue 9).aValue.toInt ∧ 3 ≤ ({ ready with aMvt := 3 }).aMvt.toNat := by decide

theorem test_witness_SendNeedsTheAddress :
    State.reset.phase = .idle ∧ State.reset.cfg = false := by decide

theorem test_witness_ReservedWordsEndLocally :
    ready.phase = .idle ∧
    (∃ x, Instr.sendReserved18to19 1 = .sendReserved18to19 x ∧ (19 : BitVec 5) = 18 + x.setWidth 5) ∧
    (∃ x, Instr.sendReserved20to23 3 = .sendReserved20to23 x ∧ (23 : BitVec 5) = 20 + x.setWidth 5) ∧
    (∃ x, Instr.sendReserved24to31 7 = .sendReserved24to31 x ∧ (31 : BitVec 5) = 24 + x.setWidth 5) ∧
    (∃ x, Instr.reserved7 0 = .reserved7 x ∧ (7 : BitVec 3) = 7) :=
  ⟨by decide, ⟨1, by decide⟩, ⟨3, by decide⟩, ⟨7, by decide⟩, ⟨0, by decide⟩⟩

theorem test_witness_ExecuteStartsOrFailsAtOnce :
    State.reset.phase = .idle ∧ State.reset.linkUp = false ∧
    ({ ready with aTimeout := 0 }).phase = .idle ∧ ({ ready with aTimeout := 0 }).linkUp = true ∧
    ({ ready with aTimeout := 1 }).phase = .idle ∧ ({ ready with aTimeout := 1 }).aTimeout ≠ 0 := by
  decide

/-- K2 carries 2049 = 0x801 at offset 4 and its checksum 0x0B at offset 8 (R61, R62, R65). -/
theorem test_witness_FrameSpaceAccessIsBigEndian :
    (8 ≤ 8 ∧ k2.memRead 8 1 = some 0x0B ∧ k2.memRead 4 4 = some 2049) ∧
    (¬ (1 = 1 ∧ 9 ≤ 8) ∧ ¬ (1 = 4 ∧ 9 = 4) ∧ k2.memRead 9 1 = none ∧ k2.memRead 5 4 = none) := by
  decide

theorem test_witness_NoExchangeWithoutLinkOrBudget :
    (∃ s : State, s.phase = .idle ∧ s.linkUp = false ∧ s.cfg = true ∧ argumentsLegal .gapos s) ∧
    (∃ s : State, s.phase = .idle ∧ s.linkUp = true ∧ s.aTimeout = 0 ∧ s.cfg = true ∧
      argumentsLegal .gapos s) :=
  ⟨⟨{ ready with linkUp := false }, by decide, by decide, by decide, by unfold argumentsLegal; decide⟩,
    { ready with aTimeout := 0 }, by decide, by decide, by decide, by decide,
    by unfold argumentsLegal; decide⟩

/-- The local checks of R203 and R204 pass at their boundary values. -/
theorem test_witness_argumentsLegal_boundaries :
    argumentsLegal .ror (readyValue (u32 (-2049))) ∧ argumentsLegal .rol (readyValue 2049) ∧
    argumentsLegal .smres (readyValue 1) ∧ argumentsLegal .smres (readyValue 8) ∧
    argumentsLegal .mvp { ready with aMvt := 2 } :=
  ⟨by unfold argumentsLegal; decide, by unfold argumentsLegal; decide,
    by unfold argumentsLegal; decide, by unfold argumentsLegal; decide,
    by unfold argumentsLegal; decide⟩

theorem test_witness_TransmitStepPutsOneByte :
    sending.phase = .tx ∧ ({ sending with inputs := [.linkTakes] }).inputs = .linkTakes :: [] ∧
    sending.txbuf.byteAt sending.idx.toNat = some 0 ∧ sendingLast.phase = .tx ∧
    sendingLast.txbuf.byteAt sendingLast.idx.toNat = some 8 := by decide

theorem test_witness_ReceiveStepStoresOneByte :
    waiting.phase = .rx ∧ waiting.idx.toNat < 8 ∧
    ({ waiting with inputs := [.rxByte 1] }).inputs = .rxByte 1 :: [] ∧
    ({ waiting with idx := 7 }).idx.toNat < 8 ∧
    ({ waiting with rxq := [5], inputs := [.rxTake] }).rxq = 5 :: [] ∧
    ({ waiting with rxq := [5], inputs := [.rxTake] }).inputs = .rxTake :: [] := by decide

theorem test_witness_NinthByteCompletesExecute :
    lastByte.phase = .rx ∧ lastByte.idx = 8 ∧ lastByte.lOp = 4 ∧
    ({ lastByte with inputs := [.rxByte 1] }).inputs = .rxByte 1 :: [] ∧
    ({ lastByte with rxq := [7, 9], inputs := [.rxTake] }).inputs = .rxTake :: [] ∧
    ({ lastByte with rxq := [7, 9], inputs := [.rxTake] }).rxq = 7 :: [9] := by decide

theorem test_witness_NinthByteCompletesSend :
    lastByteSend.phase = .rx ∧ lastByteSend.idx = 8 ∧ lastByteSend.lOp = 5 ∧
    ({ lastByteSend with inputs := [.rxByte 0xF9] }).inputs = .rxByte 0xF9 :: [] ∧
    (lastByteSend.rxbuf.setByte 8 (lastByteSend.rxq.headD 0xF9)).valid = true ∧
    (lastByteSend.rxbuf.setByte 8 (lastByteSend.rxq.headD 0xF8)).valid = false ∧
    ({ lastByteSend with rxq := [0xF9], inputs := [.rxTake] }).inputs = .rxTake :: [] ∧
    ({ lastByteSend with rxq := [0xF9], inputs := [.rxTake] }).rxq = 0xF9 :: [] := by decide

theorem test_witness_TickCountsAndExpires :
    ready.pend = none ∧ ready.phase = .idle ∧ sending.phase ≠ .idle ∧
    ({ sending with inputs := [.tick] }).inputs = .tick :: [] ∧
    ({ sending with timer := 98 }).timer.toNat + 1 < sending.lLimit.toNat ∧
    sending.lLimit.toNat ≤ ({ sending with timer := 99 }).timer.toNat + 1 := by decide

theorem test_witness_LinkErrorEndsTheExchange :
    ready.pend = none ∧ ready.phase = .idle ∧ waiting.phase ≠ .idle ∧
    ({ waiting with inputs := [.linkErr] }).inputs = .linkErr :: [] ∧
    sending.phase ≠ .idle ∧ ({ sending with inputs := [.linkClose] }).inputs = .linkClose :: [] := by
  decide

theorem test_witness_LinkEventsOutsideTheirPhase :
    (ready.pend = none ∧ sending.phase ≠ .idle ∧ sendingLast.idx.toNat ≤ 8) ∧
    (ready.phase ≠ .rx ∧ ({ sending with inputs := [.rxByte 1] }).inputs = .rxByte 1 :: [] ∧
      sending.phase ≠ .rx) ∧
    (waiting.phase ≠ .tx ∧ ({ waiting with inputs := [.linkTakes] }).inputs = .linkTakes :: []) ∧
    (waiting.rxq = [] ∧ ({ waiting with inputs := [.rxTake] }).inputs = .rxTake :: []) ∧
    ({ ready with inputs := [.linkOpen] }).inputs = .linkOpen :: [] := by decide

theorem test_witness_EdgeOrderIsLinkByteTick :
    (∀ x ∈ [lastByte, lastByteSend, sendingLast], x.phase ≠ .idle ∧ x.idx.toNat ≤ 8 ∧
      x.lLimit.toNat ≤ ({ x with timer := 99 }).timer.toNat + 1) ∧
    (lastByte.phase = .rx ∧ lastByte.idx = 8 ∧ lastByte.lOp = 4 ∧ lastByteSend.lOp = 5) ∧
    ({ lastByte with inputs := [.edge ⟨false, false, false, some 0xF9, true, false, true⟩] }).inputs =
      .edge ⟨false, false, false, some 0xF9, true, false, true⟩ :: [] ∧
    (lastByteSend.rxbuf.setByte 8 0xF9).valid = true ∧
    (lastByteSend.rxbuf.setByte 8 0xF8).valid = false ∧
    sendingLast.phase = .tx ∧ sendingLast.txbuf.byteAt sendingLast.idx.toNat = some 8 := by decide

theorem test_witness_NoStartIsAcceptedWhileBusy :
    (Instr.cfgaddr 0).port ≠ .rsp ∧ (Instr.cmdMst ⟨1, 0, 4⟩).port ≠ .rsp ∧ sending.phase ≠ .idle ∧
    waiting.phase ≠ .idle ∧ ({ waiting with pend := some .op, inputs := [.tick] }).pend = some .op ∧
    ({ waiting with pend := some .op, inputs := [.tick] }).inputs = .tick :: [] ∧
    changesPresentation .tick = false ∧
    changesPresentation (.edge ⟨false, true, false, none, true, false, false⟩) = false ∧
    (∃ t, step { waiting with pend := some .op, inputs := [.tick] } = .next t) ∧
    lastByte.idx.toNat ≤ 8 :=
  ⟨by decide, by decide, by decide, by decide, by decide, by decide, by decide, by decide,
    ⟨_, rfl⟩, by decide⟩

theorem test_witness_HostWriteSetsOneOperand :
    State.reset.pend = none ∧ sending.phase ≠ .idle ∧
    ({ sending with inputs := [.write (.value 5)] }).inputs = .write (.value 5) :: [] := by decide

theorem test_witness_OperandWritesReachOnlyTheNextStart :
    isReset (.input .tick) = false ∧ (∀ v, Input.tick ≠ .write v) ∧ offersStart .tick = false ∧
    isReset (.input (.edge ⟨false, true, false, none, true, false, false⟩)) = false ∧
    sending.phase ≠ .idle :=
  ⟨by decide, by simp, by decide, by decide, by decide⟩

theorem test_witness_CommandFrameIsWrittenWhole :
    (Instr.cmdRor ⟨1, 2049, 0x0B⟩).port = .cmd ∧ encode (.cmdRor ⟨1, 2049, 0x0B⟩) = k2.toList ∧
    ready.phase = .idle ∧ ready.linkUp = true ∧ ready.aTimeout ≠ 0 := by decide

theorem test_witness_CommandFrameNeedsLinkAndBudget :
    (Instr.cmdRor ⟨1, 2049, 0x0B⟩).port = .cmd ∧ encode (.cmdRor ⟨1, 2049, 0x0B⟩) = k2.toList ∧
    State.reset.phase = .idle ∧ State.reset.linkUp = false ∧
    ({ ready with aTimeout := 0 }).phase = .idle ∧ ({ ready with aTimeout := 0 }).aTimeout = 0 := by
  decide

theorem test_witness_ResponseFrameCompletesExecute :
    (Instr.rspSuccess ⟨1, 2, 6, 100, 0xD1⟩).port = .rsp ∧
    encode (.rspSuccess ⟨1, 2, 6, 100, 0xD1⟩) = k20.toList ∧ waiting.phase = .rx ∧
    waiting.idx = 0 ∧ waiting.lOp = 4 ∧ k20.toList = (waiting.rxq ++ k20.toList).take 9 := by decide

theorem test_witness_ResponseFrameCompletesSend :
    (Instr.rspSuccess ⟨1, 2, 6, 100, 0xD1⟩).port = .rsp ∧
    encode (.rspSuccess ⟨1, 2, 6, 100, 0xD1⟩) = k20.toList ∧ waitingSend.phase = .rx ∧
    waitingSend.idx = 0 ∧ waitingSend.lOp = 5 ∧
    k20.toList = (waitingSend.rxq ++ k20.toList).take 9 ∧ k20.valid = true := by decide

theorem test_witness_ResponseFrameIsNineArrivals :
    (Instr.rspSuccess ⟨1, 2, 6, 100, 0xD1⟩).port = .rsp ∧
    encode (.rspSuccess ⟨1, 2, 6, 100, 0xD1⟩) = k20.toList ∧ waiting.pend = none ∧
    waiting.idx.toNat ≤ 8 ∧ lastByte.idx.toNat ≤ 8 := by decide

theorem test_witness_EchoFieldsAreNotChecked :
    (k20.valid = true ∧ Frame.valid ⟨9, 9, 100, 9, 0, 0, 0, 100, 0xE3⟩ = true ∧ k20.b2 = 100 ∧
      k20.value = Frame.value ⟨9, 9, 100, 9, 0, 0, 0, 100, 0xE3⟩) ∧
    (({ k20 with b8 := 0 }).valid = false ∧ ({ k2 with b8 := 0 }).valid = false) := by decide

theorem test_witness_NineTransmitStepsWriteTheFrame :
    (Instr.cmdRor ⟨1, 2049, 0x0B⟩).port = .cmd ∧ encode (.cmdRor ⟨1, 2049, 0x0B⟩) = k2.toList ∧
    ready.phase = .idle ∧ ready.linkUp = true ∧ ready.aTimeout ≠ 0 := by decide

theorem test_witness_ByteStepsRefineExecute :
    ready.phase = .idle ∧ ready.linkUp = true ∧ ready.aTimeout ≠ 0 ∧ ready.rxq = [] := by decide

theorem test_witness_DecodeThenEncodeIsIdentity :
    decodeBytes .op [0xA4, 0x17] = .ok (.sendGapos, [0x17]) ∧
    decodeBytes .cmd k2.toList = .ok (.cmdRor ⟨1, 2049, 0x0B⟩, []) ∧
    decodeBytes .rsp k20.toList = .ok (.rspSuccess ⟨1, 2, 6, 100, 0xD1⟩, []) := by decide

theorem test_witness_StepRunsTheDecodedInstruction :
    (({ ready with pend := some .op }).pend = some .op ∧ ready.phase = .idle) ∧
    (({ ready with pend := some (.frame k2) }).pend = some (.frame k2) ∧
      decodeCmd k2 = .ok (.cmdRor ⟨1, 2049, 0x0B⟩) ∧
      decodeCmd Frame.zero = .error (.unknownTemplate 0 0 0)) ∧
    (waiting.pend = none ∧ ({ waiting with inputs := [.rxFrame k20] }).inputs = .rxFrame k20 :: [] ∧
      decodeRsp k20 = .ok (.rspSuccess ⟨1, 2, 6, 100, 0xD1⟩) ∧
      decodeRsp Frame.zero = .error (.unnamedStatus 0)) ∧
    (ready.pend = none ∧
      ({ ready with inputs := [.edge ⟨false, true, false, none, true, false, false⟩] }).inputs =
        .edge ⟨false, true, false, none, true, false, false⟩ :: []) := by decide

theorem test_witness_ResetDropsTheExchange :
    waiting.phase ≠ .idle ∧ ready.pend = none ∧
    ({ waiting with inputs := [.rst] }).inputs = .rst :: [] := by decide

/-- A SEND.GAPOS in its transmit phase, 98 of its 100 ticks gone, with these events waiting. -/
def sendingSend (inputs : List Input) : State :=
  { sending with lOp := 5, lKind := 4, timer := 98, inputs := inputs }

/-- It meets the whole invariant. -/
theorem sendingSend_legal (inputs : List Input) : Legal (sendingSend inputs) where
  templates := test_default_templates_are_distinct
  pc := ⟨show (3 : BitVec 4).toNat ≤ 8 by decide, fun h => by cases h⟩
  address := fun _ => show (1 : Byte) ≠ 0 by decide
  exchange := fun _ => ⟨.inr rfl, rfl, rfl, show (98 : Word32).toNat < (100 : Word32).toNat by decide⟩
  send := fun _ _ =>
    ⟨show (4 : BitVec 5).toNat ≤ 16 by decide, rfl, rfl, show askFrame.valid = true by decide⟩
  result := ⟨⟨show (0 : BitVec 16).toNat ≤ 255 by decide, rfl⟩, fun h => by cases h⟩
  stream := ⟨[], rfl⟩
  queue := fun _ => rfl

theorem test_witness_EveryStepKeepsTheInvariant :
    Legal (sendingSend [.linkTakes]) ∧
    ∃ t, step (sendingSend [.linkTakes]) = .next t :=
  ⟨sendingSend_legal _, _, rfl⟩

theorem test_witness_LegalStatesNeverStop : Legal (sendingSend [.tick]) :=
  sendingSend_legal _

theorem test_witness_TemplatesAreConstant : ∃ t, step { sending with inputs := [.tick] } = .next t :=
  ⟨_, rfl⟩

theorem test_witness_AddressIsImmutableOnceSet :
    ∃ t, step { ready with pend := some .op } = .next t ∧
      ({ ready with pend := some .op }).cfg = true ∧
      isReset (nextEvent { ready with pend := some .op }).1 = false :=
  ⟨_, rfl, rfl, rfl⟩

theorem test_witness_TransmitStreamOnlyGrows :
    ∃ t, step { sending with inputs := [.linkTakes] } = .next t ∧
      isReset (nextEvent { sending with inputs := [.linkTakes] }).1 = false :=
  ⟨_, rfl, rfl⟩

theorem test_witness_OnlyExpiryErrorCompletionOrResetEndAnExchange :
    (∃ t, step { lastByte with inputs := [.rxByte 0xF9] } = .next t ∧ lastByte.phase ≠ .idle ∧
      t.phase = .idle ∧ endsExchange lastByte (.rxByte 0xF9) = true) ∧
    (∃ t, step { sending with inputs := [.tick] } = .next t ∧ sending.phase ≠ .idle ∧
      t.phase = .tx ∧ endsExchange sending .tick = false) ∧
    endsExchange { sending with timer := 99 } .tick = true ∧
    endsExchange { waiting with idx := 7 } (.rxByte 0) = false :=
  ⟨⟨_, rfl, by decide, rfl, by decide⟩, ⟨_, rfl, by decide, rfl, by decide⟩, by decide, by decide⟩

theorem test_witness_ExchangeEndsWithinItsTicks :
    Legal (sendingSend [.tick, .linkTakes, .tick]) ∧
    (sendingSend [.tick, .linkTakes, .tick]).phase ≠ .idle ∧
    (sendingSend [.tick, .linkTakes, .tick]).lLimit.toNat -
      (sendingSend [.tick, .linkTakes, .tick]).timer.toNat ≤
      ticks (sendingSend [.tick, .linkTakes, .tick]).inputs :=
  ⟨sendingSend_legal _, by decide, by decide⟩

theorem test_witness_LocalErrorsTouchNoLink :
    (Instr.reserved6 0).port = .op ∧
    ∃ t, exec (.reserved6 0) ready = .next t ∧ t.done = true ∧ t.rClass = .locl :=
  ⟨by decide, _, rfl, rfl, rfl⟩

theorem test_witness_SelectorRejectsUnknownMotors :
    (System.create [.right, .left]).motors.length ≤ 2 ∧
    (System.create [.right, .left]).motors[1]? = some (Motor.create 1 .left) := by decide

theorem test_witness_InstancesShareNothing :
    ∃ t, (System.create [.right, .left]).step (.present 0 .op) = .next t ∧ 1 ≠ 0 :=
  ⟨_, rfl, by decide⟩

theorem test_witness_HostOperationsIssueTheirFirstCommand :
    (motor 0 .left none).job = none := by decide

theorem test_witness_MoveToAngleKeepsItsDirection :
    (0 < (3200 : Int) ∧ (0 : Int) ≤ 360 ∧ 0 ≤ (500 : Int) ∧
      Int.tdiv (0 * 3200) 360 < Int.tmod 100 3200) ∧
    ((-500 : Int) < 0 ∧ Int.tmod 3300 3200 < Int.tdiv (180 * 3200) 360 ∧
      Int.tdiv (180 * 3200) 360 - 3200 < Int.tmod 3300 3200) := by decide

theorem test_witness_StopAndResetPositionClearTheBias :
    (motor 500 .right (some .stop)).ended = true ∧
    (motor 500 .right (some .stop)).job = some .stop ∧
    (motor (-2049) .right (some .resetStop)).ended = true ∧
    (motor 0 .right (some (.resetSapos (.wire 100)))).ended = true ∧
    (motor 0 .right (some .rotate)).ended = true ∧ (motor 0 .right (some .rotate)).job = some .rotate :=
  by decide

theorem test_witness_MoveToAngleStopsOnAFailedRead :
    (motor 500 .right (some (.moveRead 90))).ended = true ∧
    (motor 500 .right (some (.moveRead 90))).vcf.report ≠ .wire 100 ∧
    (∃ m : Motor, m.ended = true ∧ m.job = some (.moveRead 0) ∧ m.vcf.report = .wire 100 ∧
      m.vcf.rValue = 100 ∧ m.bias = 500) :=
  ⟨by decide, by decide,
    { motor 500 .right (some (.moveRead 0)) with
      vcf := { ready with done := true, rCode := 100, rValue := 100 } }, by decide⟩

end Sys2Proof.Tests
end

section
/-! PROOFS. The statements of 10_state.md. What a step can do is said once: a start and a whole frame
have one meaning each (`runStart_op`, `runStart_frame`, `runInput_rxFrame`), and what every change
of the block keeps, every step keeps (`Stable.step`). -/

namespace Sys2Proof.Machine

open Sys2Proof.Safety

/-! ### The meaning of a start and of a whole frame -/

/-- The meaning of an operation word: the operation code selects it (R107, R110). -/
def operation (op : BitVec 3) (kind : BitVec 5) : State → State :=
  match op.toNat with
  | 0 => cfgaddrOp
  | 1 => encodeOp
  | 2 => decodeOperand
  | 3 => buildOp kind
  | 4 => executeOp
  | 5 => sendOp kind
  | 6 => reservedOp 6
  | _ => reservedOp 7

/-- The reserved rows of SEND hold the low bits of their kind (R107). -/
theorem decodeSend_reserved : ∀ kind : BitVec 5, 17 < kind.toNat →
    (∃ low, decodeSend kind = .sendReserved18to19 low ∧ 0b1001#4 ++ low = kind) ∨
    (∃ low, decodeSend kind = .sendReserved20to23 low ∧ 0b101#3 ++ low = kind) ∨
    (∃ low, decodeSend kind = .sendReserved24to31 low ∧ 0b11#2 ++ low = kind) := by decide

/-- Every SEND word runs `sendOp` on its kind, a reserved one too (R107, R210). -/
theorem exec_decodeSend (kind : BitVec 5) (s : State) :
    exec (decodeSend kind) s = whenIdle s (sendOp kind) := by
  by_cases h : 17 < kind.toNat
  · rcases decodeSend_reserved kind h with ⟨low, hi, hk⟩ | ⟨low, hi, hk⟩ | ⟨low, hi, hk⟩ <;>
      exact hi ▸ congrArg (whenIdle s <| sendOp ·) hk
  · obtain ⟨⟨n, hn⟩⟩ := kind
    have : n ≤ 17 := by simpa using h
    interval_cases n <;> rfl

theorem exec_decodeOp (op : BitVec 3) (kind : BitVec 5) (s : State) :
    exec (decodeOp (opWord op kind)) s = whenIdle s (operation op kind) := by
  simp only [decodeOp, opWord, BitVec.extractLsb'_append_eq_left,
    BitVec.extractLsb'_append_eq_right]
  match op with
  | 0 | 1 | 2 | 3 | 4 | 6 | 7 => rfl
  | 5 => exact exec_decodeSend kind s

theorem runStart_op (s : State) : runStart .op s = whenIdle s (operation s.aOp s.aKind) :=
  exec_decodeOp s.aOp s.aKind s

/-- One row of the command decoder: a frame with the row's template is the row's frame. -/
theorem exec_of_row {f : Frame} {t : Template} {row i : Instr} {rest : Except DecodeError Instr}
    {s : State} (hrow : exec row s = writeFrame (cmdFrame t f.cmdFields) s)
    (hrest : rest = .ok i → exec i s = writeFrame f s)
    (h : (if f.hasTemplate t then .ok row else rest) = Except.ok i) :
    exec i s = writeFrame f s := by
  split_ifs at h with ht
  · cases h
    rw [hrow, cmdFrame_of_hasTemplate ht]
  · exact hrest h

/-- The row a command frame decodes to writes that frame (R90). -/
theorem exec_of_decodeCmd {f : Frame} {i : Instr} (h : decodeCmd f = .ok i) (s : State) :
    exec i s = writeFrame f s := by
  unfold decodeCmd at h
  iterate 19 refine exec_of_row rfl (fun h => ?_) h
  cases h

theorem runStart_frame (f : Frame) (s : State) : runStart (.frame f) s = writeFrame f s := by
  simp only [runStart]
  split
  · exact exec_of_decodeCmd ‹_› s
  · rfl

/-- The row a response frame decodes to reads that frame (R91, R104). -/
theorem exec_of_decodeRsp {f : Frame} {i : Instr} (h : decodeRsp f = .ok i) (s : State) :
    exec i s = readFrame f s := by
  have same_status {b : Byte} (hb : f.b2.toNat = b.toNat) : rspFrame b f.rspFields = f :=
    BitVec.eq_of_toNat_eq hb ▸ rspFrame_rspFields_self f
  unfold decodeRsp at h
  split at h <;> cases h
  all_goals exact congrArg (readFrame · s) (same_status ‹_›)

/-- A whole frame that arrives is its nine bytes in a row, whatever its status (R106, R161). -/
theorem runInput_rxFrame (f : Frame) (s : State) :
    runInput (.rxFrame f) s = moving (rxBytes f.toList) s := by
  simp only [runInput]
  split
  · exact exec_of_decodeRsp ‹_› s
  · rfl

/-- An edge that accepts no operation runs its port events alone (R180). -/
theorem runEdge_noStart {p : Pins} {s : State} (hr : p.rst = false)
    (hs : s.phase ≠ .idle ∨ p.opValid = false) : runEdge p s = moving (clockEdge p) s := by
  rcases hs with hs | hs <;> simp [runEdge, moving, hr, hs]

theorem moving_next {f : State → State} {s t : State} (h : moving f s = .next t) : t = f s := by
  unfold moving at h
  split at h <;> cases h
  rfl

/-! ### What each change keeps, every step keeps -/

/-- A property that each change to a block other than reset keeps (R162). -/
structure Stable (P : State → Prop) : Prop where
  /-- what waits at the ports -/
  ports (s : State) (p : Option Start) (r : List Input) (n : Nat) :
    P s → P { s with pend := p, inputs := r, fresh := n }
  hostWrite (w : HostWrite) (s : State) : P s → P (hostWrite w s)
  operation (op : BitVec 3) (kind : BitVec 5) (s : State) :
    s.phase = .idle → P s → P (operation op kind s)
  txStep (s : State) : P s → P (txStep s)
  rxByte (b : Byte) (s : State) : P s → P (rxByte b s)
  rxTake (s : State) : P s → P (rxTake s)
  tick (s : State) : P s → P (tick s)
  linkError (s : State) : P s → P (linkError s)
  linkOpen (s : State) : P s → P (linkOpen s)
  linkClose (s : State) : P s → P (linkClose s)

/-- What an event keeps is kept if a port decides whether it is there. -/
theorem whenPort_keeps {P : State → Prop} {f : State → State} (b : Bool) {s : State}
    (hf : ∀ s, P s → P (f s)) (hs : P s) : P (whenPort b f s) := by
  cases b
  · exact hs
  · exact hf s hs

namespace Stable

variable {P : State → Prop} (hP : Stable P)
include hP

theorem txSteps (n : Nat) (s : State) (hs : P s) : P (txSteps n s) := by
  induction n generalizing s with
  | zero => exact hs
  | succ n ih => exact ih _ (hP.txStep s hs)

theorem rxBytes (bs : List Byte) (s : State) (hs : P s) : P (rxBytes bs s) := by
  induction bs generalizing s with
  | nil => exact hs
  | cons b bs ih => exact ih _ (hP.rxByte b s hs)

theorem withdraw (s : State) (hs : P s) : P (withdraw s) := hP.ports s none s.inputs s.fresh hs

theorem rxPort (d : Option Byte) (s : State) (hs : P s) : P (rxPort d s) := by
  cases d with
  | none => exact hs
  | some b => exact hP.rxByte b s hs

/-- An edge is its port events one after the other, or a reset (R174, R340). -/
theorem clockEdge (p : Pins) (s : State) (hr : p.rst = true → P (resetBlock s)) (hs : P s) :
    P (clockEdge p s) := by
  refine whenPort_keeps _ hP.withdraw ?_
  split_ifs with h h'
  · exact hr h
  all_goals
    refine whenPort_keeps _ hP.tick (whenPort_keeps _ hP.txStep (hP.rxPort _ _
      (whenPort_keeps _ hP.linkError ?_)))
  · exact hP.linkOpen s hs
  · exact hP.linkClose s hs

theorem runStart (st : Start) {s t : State} (h : runStart st s = .next t) (hs : P s) : P t := by
  cases st with
  | op =>
    obtain ⟨idle, rfl⟩ := whenIdle_next ((runStart_op s).symm.trans h)
    exact hP.operation _ _ s idle hs
  | frame f =>
    obtain ⟨idle, rfl⟩ := whenIdle_next ((runStart_frame f s).symm.trans h)
    exact hP.txSteps 9 _ (hP.operation 4 0 _ idle (hP.hostWrite (.frame f) s hs))

theorem runEdge (p : Pins) {s t : State} (h : runEdge p s = .next t)
    (hr : p.rst = true → P (resetBlock s)) (hs : P s) : P t := by
  have edge := hP.clockEdge p s hr hs
  unfold Machine.runEdge at h
  split_ifs at h
  · exact Host.Outcome.next.inj h ▸ edge
  · exact hP.runStart .op h edge
  · exact Host.Outcome.next.inj h ▸ edge

theorem runInput (i : Input) {s t : State} (h : runInput i s = .next t)
    (hr : isReset (.input i) = true → P (resetBlock s)) (hs : P s) : P t := by
  cases i with
  | present st => exact Host.Outcome.next.inj h ▸ hP.ports s (some st) s.inputs s.fresh hs
  | withdraw => exact Host.Outcome.next.inj h ▸ hP.withdraw s hs
  | write w => exact Host.Outcome.next.inj h ▸ hP.hostWrite w s hs
  | linkTakes => exact moving_next h ▸ hP.txStep s hs
  | rxByte b => exact moving_next h ▸ hP.rxByte b s hs
  | rxTake => exact moving_next h ▸ hP.rxTake s hs
  | rxFrame f => exact moving_next ((runInput_rxFrame f s).symm.trans h) ▸ hP.rxBytes _ s hs
  | tick => exact Host.Outcome.next.inj h ▸ hP.tick s hs
  | linkErr => exact Host.Outcome.next.inj h ▸ hP.linkError s hs
  | linkOpen => exact Host.Outcome.next.inj h ▸ hP.linkOpen s hs
  | linkClose => exact Host.Outcome.next.inj h ▸ hP.linkClose s hs
  | rst => exact Host.Outcome.next.inj h ▸ hr rfl
  | edge p => exact hP.runEdge p h hr hs

/-- A step keeps what every change keeps, if a reset, where it is the step's event, keeps it too. -/
theorem step {s t : State} (h : step s = .next t)
    (hr : isReset (nextEvent s).1 = true → ∀ u, P u → P (resetBlock u)) (hs : P s) : P t := by
  unfold Machine.step at h
  rcases nextEvent_cases s with ⟨st, -, -, he⟩ | ⟨i, rest, -, -, he⟩ | ⟨-, -, he⟩ <;>
    rw [he] at h hr
  · exact hP.runStart st h (hP.ports s none s.inputs s.fresh hs)
  · have hu := hP.ports s s.pend rest s.fresh hs
    exact hP.runInput i h (hr · _ hu) hu
  · have hu := hP.ports s s.pend s.inputs (s.fresh + 1) hs
    exact hP.runInput _ h (hr · _ hu) hu

end Stable

end Sys2Proof.Machine

/-! ### The operations: every guard, every end (R200, R202, R210) -/

namespace Sys2Proof

/-- A code that has a kind is at most 16 (R100, R107). -/
theorem Kind.ofCode_le {code : BitVec 5} {k : Kind} (h : Kind.ofCode code = some k) :
    code.toNat ≤ 16 := by
  unfold Kind.ofCode at h
  split at h
  case h_18 => cases h
  all_goals omega

end Sys2Proof

namespace Sys2Proof.Machine

open Sys2Proof.Safety

/-- BUILD's frame is one that ENCODE makes: it has the block's address and its own checksum
(R201, R202). -/
theorem buildFrame_ok {t : TemplateTable} {a : Byte} {k : Kind} {mvt coord : Byte} {v : Word32}
    {f : Frame} (h : buildFrame t a k mvt coord v = .ok f) : f.b0 = a ∧ f.valid = true := by
  suffices ∃ c typ mot, encodeFrame a c typ mot v = f by
    obtain ⟨c, typ, mot, rfl⟩ := this
    exact ⟨encodeFrame_b0 a c typ mot v, encodeFrame_valid a c typ mot v⟩
  cases k with
  | mvp =>
    simp only [buildFrame] at h
    split at h <;> cases h
    exact ⟨_, _, _, rfl⟩
  | _ => exact ⟨_, _, _, Except.ok.inj h⟩

theorem cfgaddrOp_cases (s : State) :
    (s.cfg = true ∧ cfgaddrOp s = endOp (.locl .addrAlreadySet) (latchOp 0 s)) ∨
    (s.cfg = false ∧ (s.aAddr.toNat < 1 ∨ 255 < s.aAddr.toNat) ∧
      cfgaddrOp s = endOp (.locl .address) (latchOp 0 s)) ∨
    (s.cfg = false ∧ 1 ≤ s.aAddr.toNat ∧ s.aAddr.toNat ≤ 255 ∧
      cfgaddrOp s =
        endOp .none { latchOp 0 s with devaddr := s.aAddr.extractLsb' 0 8, cfg := true }) := by
  unfold cfgaddrOp
  split_ifs with h1 h2
  · exact .inl ⟨h1, rfl⟩
  · exact .inr (.inl ⟨by simpa using h1, h2, rfl⟩)
  · exact .inr (.inr ⟨by simpa using h1, by omega, by omega, rfl⟩)

theorem buildOp_cases (kind : BitVec 5) (s : State) :
    (∃ a, buildOp kind s = endOp (.locl a) (latchKind 3 kind s)) ∨
    (∃ k f, Kind.ofCode kind = some k ∧ s.cfg = true ∧
      buildFrame s.tpl s.devaddr k s.aMvt s.aCoord s.aValue = .ok f ∧
      buildOp kind s = endOp .none { latchKind 3 kind s with rFrame := f }) := by
  unfold buildOp
  split
  · exact .inl ⟨_, rfl⟩
  · split_ifs with hc
    · exact .inl ⟨_, rfl⟩
    · split
      · exact .inl ⟨_, rfl⟩
      · exact .inr ⟨_, _, ‹_›, by simpa using hc, ‹_›, rfl⟩

theorem sendOp_cases (kind : BitVec 5) (s : State) :
    (∃ a, sendOp kind s = endOp (.locl a) (latchSend kind s)) ∨
    (∃ k f, Kind.ofCode kind = some k ∧ s.cfg = true ∧ validate k s.aValue = none ∧
      buildFrame s.tpl s.devaddr k s.aMvt s.aCoord s.aValue = .ok f ∧
      sendOp kind s = startExchange f (latchSend kind s)) := by
  unfold sendOp
  split
  · exact .inl ⟨_, rfl⟩
  · split_ifs with hc
    · exact .inl ⟨_, rfl⟩
    · split
      · exact .inl ⟨_, rfl⟩
      · split
        · exact .inl ⟨_, rfl⟩
        · exact .inr ⟨_, _, ‹_›, by simpa using hc, ‹_›, ‹_›, rfl⟩

/-- What an operation can be, by its code (R107, R110). -/
theorem operation_cases (op : BitVec 3) (kind : BitVec 5) :
    operation op kind = cfgaddrOp ∨ operation op kind = encodeOp ∨
    operation op kind = decodeOperand ∨ operation op kind = buildOp kind ∨
    operation op kind = executeOp ∨ operation op kind = sendOp kind ∨
    ∃ code, operation op kind = reservedOp code := by
  unfold operation
  split <;> simp

/-! ### The steps of an exchange: every guard, every end (R166, R171, R172) -/

theorem txStep_cases (s : State) :
    (s.phase = .tx ∧ s.idx = 8 ∧
      txStep s = { s with txs := s.txs ++ [s.txbuf.b8], phase := .rx, idx := 0 }) ∨
    (∃ b, s.phase = .tx ∧ s.idx ≠ 8 ∧ s.txbuf.byteAt s.idx.toNat = some b ∧
      txStep s = { s with txs := s.txs ++ [b], phase := .tx, idx := s.idx + 1 }) ∨
    ((s.phase ≠ .tx ∨ 8 < s.idx.toNat) ∧ txStep s = s) := by
  by_cases hp : s.phase = .tx
  swap
  · exact .inr (.inr ⟨.inl hp, txStep_other hp⟩)
  by_cases hi : s.idx = 8
  · exact .inl ⟨hp, hi, txStep_last hp hi⟩
  cases hb : s.txbuf.byteAt s.idx.toNat with
  | some b => exact .inr (.inl ⟨b, hp, hi, rfl, txStep_more hp hi hb⟩)
  | none =>
    refine .inr (.inr ⟨.inr (not_le.mp fun hle => ?_), by simp only [txStep, hp, hb]⟩)
    obtain ⟨b, hb'⟩ := s.txbuf.byteAt_some _ hle
    rw [hb'] at hb
    cases hb

/-- Both operations keep the response in R_FRAME; SEND alone decodes it (R161, R172, R210). -/
theorem complete_cases (s : State) :
    (s.lOp = 5 ∧ s.rxbuf.valid = true ∧
      complete s =
        endOp (.wire s.rxbuf.b2 (if isGetCode s.lKind then some s.rxbuf.value else none))
          (writeDecode s.rxbuf { s with rFrame := s.rxbuf })) ∨
    (s.lOp = 5 ∧ s.rxbuf.valid = false ∧
      complete s = endOp .checksum (writeDecode s.rxbuf { s with rFrame := s.rxbuf })) ∨
    (s.lOp ≠ 5 ∧ complete s = endOp .none { s with rFrame := s.rxbuf }) := by
  by_cases hop : s.lOp = 5
  · rw [complete, if_pos hop]
    by_cases hv : s.rxbuf.valid = true
    · exact .inl ⟨hop, hv, if_pos hv⟩
    · exact .inr (.inl ⟨hop, by simpa using hv, if_neg hv⟩)
  · exact .inr (.inr ⟨hop, if_neg hop⟩)

theorem linkError_cases (s : State) :
    (s.phase = .idle ∧ linkError s = s) ∨
    (s.phase ≠ .idle ∧ linkError s = abort .linkError s) := by
  by_cases hp : s.phase = .idle
  · exact .inl ⟨hp, linkError_idle hp⟩
  · exact .inr ⟨hp, linkError_busy hp⟩

end Sys2Proof.Machine

/-! ### The invariant -/

namespace Sys2Proof.Safety

open Sys2Proof.Machine

/-- What the end of an operation needs of the state it ends in: the parts of the invariant that no
phase and no result register touches (R21, R36, R41). -/
def Grounded (s : State) : Prop := s.tpl.distinct = true ∧ addressLegal s ∧ queueLegal s

theorem Legal.grounded {s : State} (h : Legal s) : Grounded s := ⟨h.templates, h.address, h.queue⟩

/-- An idle block is legal if its result is: no other part speaks of IDLE. -/
theorem Grounded.legal_idle {s : State} (h : Grounded s) (hp : s.phase = .idle) (hi : s.idx = 0)
    (hr : resultLegal s) : Legal s where
  templates := h.1
  pc := ⟨by simp [hi], fun _ => hi⟩
  address := h.2.1
  exchange := fun hn => absurd hp hn
  send := fun hn => absurd hp hn
  result := hr
  stream := by simp only [streamLegal, hp]
  queue := h.2.2

theorem localArgId_range (a : LocalArg) :
    1 ≤ (localArgId a).toNat ∧ (localArgId a).toNat ≤ 10 := by cases a <;> decide

theorem causeId_range (c : Cause) : 1 ≤ (causeId c).toNat ∧ (causeId c).toNat ≤ 4 := by
  cases c <;> decide

/-- Every ending is an outcome of R311; a value is one only beside a valid decode (R33). -/
theorem resultLegal_endOp (e : Ending) (s : State)
    (hv : ∀ b v, e = .wire b (some v) → s.dValid = true) : resultLegal (endOp e s) := by
  cases e with
  | none => exact ⟨⟨rfl, rfl⟩, fun h => by cases h⟩
  | wire b v =>
    rw [endOp_wire]
    refine ⟨⟨?_, rfl⟩, fun h => ⟨rfl, ?_⟩⟩
    · simp only [BitVec.toNat_setWidth]
      omega
    · cases v with
      | none => cases h
      | some v => exact hv b v rfl
  | locl a => exact ⟨⟨rfl, localArgId_range a⟩, fun h => by cases h⟩
  | transport c => exact ⟨⟨rfl, causeId_range c⟩, fun h => by cases h⟩
  | checksum => exact ⟨⟨rfl, Nat.le_add_left 1 3, Nat.le_refl 4⟩, fun h => by cases h⟩

/-- An operation ends in a legal state (R311). -/
theorem Grounded.legal_endOp {e : Ending} {s : State} (h : Grounded s)
    (hv : ∀ b v, e = .wire b (some v) → s.dValid = true) : Legal (endOp e s) := by
  refine Grounded.legal_idle ?_ (endOp_phase e s) (endOp_idx e s) (resultLegal_endOp e s hv)
  simpa only [Grounded, addressLegal, queueLegal, endOp_tpl, endOp_cfg, endOp_devaddr, endOp_rxq]
    using h

/-- A failed exchange ends legally, whatever it got to (R170, R171). -/
theorem Grounded.legal_abort {c : Cause} {s : State} (h : Grounded s) : Legal (abort c s) :=
  Grounded.legal_endOp (e := .transport c) h nofun

/-- A completed exchange ends legally: SEND surfaces a value of a valid response only (R172, R210). -/
theorem Grounded.legal_complete {s : State} (h : Grounded s) : Legal (complete s) := by
  rcases complete_cases s with ⟨-, hv, he⟩ | ⟨-, -, he⟩ | ⟨-, he⟩ <;> rw [he]
  · exact Grounded.legal_endOp h fun _ _ _ => hv
  · exact Grounded.legal_endOp h nofun
  · exact Grounded.legal_endOp h nofun

/-- An exchange starts legally, or fails at once (R165). -/
theorem Grounded.legal_startExchange {c : Frame} {s : State} (h : Grounded s)
    (hr : resultLegal s) (hd : s.done = false) (hop : s.lOp = 4 ∨ s.lOp = 5)
    (hs : s.lOp = 5 →
      s.lKind.toNat ≤ 16 ∧ s.cfg = true ∧ c.b0 = s.devaddr ∧ c.valid = true) :
    Legal (startExchange c s) := by
  rcases startExchange_cases c s with ⟨-, he⟩ | ⟨-, -, he⟩ | ⟨hl, ht, he⟩ <;> rw [he]
  · exact h.legal_endOp nofun
  · exact h.legal_endOp nofun
  · have budget : 0 < s.aTimeout.toNat := by
      rw [Nat.pos_iff_ne_zero]
      exact fun h0 => ht (BitVec.eq_of_toNat_eq h0)
    exact {
      templates := h.1
      pc := ⟨Nat.zero_le 8, fun _ => rfl⟩
      address := h.2.1
      exchange := fun _ => ⟨hop, hl, hd, budget⟩
      send := fun _ => hs
      result := hr
      stream := ⟨s.txs, (List.append_nil _).symm⟩
      queue := h.2.2 }

/-- Every operation of an idle block ends legally or starts a legal exchange (R107, R110). -/
theorem legal_operation (op : BitVec 3) (kind : BitVec 5) {s : State} (h : Legal s) :
    Legal (operation op kind s) := by
  rcases operation_cases op kind with he | he | he | he | he | he | ⟨code, he⟩ <;> rw [he]
  · -- CFGADDR
    rcases cfgaddrOp_cases s with ⟨-, he⟩ | ⟨-, -, he⟩ | ⟨-, h1, h255, he⟩ <;> rw [he]
    · exact Grounded.legal_endOp h.grounded nofun
    · exact Grounded.legal_endOp h.grounded nofun
    · refine Grounded.legal_endOp ⟨h.templates, fun _ h0 => ?_, h.queue⟩ nofun
      have : s.aAddr.toNat % 256 = 0 := by
        simpa [BitVec.extractLsb'_toNat] using congrArg BitVec.toNat h0
      omega
  · -- ENCODE
    exact Grounded.legal_endOp h.grounded nofun
  · -- DECODE
    exact Grounded.legal_endOp h.grounded nofun
  · -- BUILD
    rcases buildOp_cases kind s with ⟨a, he⟩ | ⟨k, f, -, -, -, he⟩ <;> rw [he]
    · exact Grounded.legal_endOp h.grounded nofun
    · exact Grounded.legal_endOp h.grounded nofun
  · -- EXECUTE
    exact Grounded.legal_startExchange h.grounded h.result rfl (.inl rfl) nofun
  · -- SEND
    rcases sendOp_cases kind s with ⟨a, he⟩ | ⟨k, f, hk, hc, -, hf, he⟩ <;> rw [he]
    · exact Grounded.legal_endOp h.grounded nofun
    · exact Grounded.legal_startExchange h.grounded h.result rfl (.inr rfl)
        fun _ => ⟨Kind.ofCode_le hk, hc, buildFrame_ok hf⟩
  · -- reserved
    exact Grounded.legal_endOp h.grounded nofun

/-- Below 8 the count of IDX does not wrap (R27). -/
theorem toNat_idx_succ {i : BitVec 4} (hle : i.toNat ≤ 8) (hne : i ≠ 8) :
    i.toNat < 8 ∧ (i + 1).toNat = i.toNat + 1 := by
  bv_omega

/-- An exchange goes on: the pc, TXS and the response buffer change, and the rest stands. -/
theorem Legal.proceed {s : State} (h : Legal s) {p : Phase} {i : BitVec 4} {sent : List Byte}
    {response : Frame} (busy : s.phase ≠ .idle) (hp : p ≠ .idle) (hi : i.toNat ≤ 8)
    (hs : streamLegal { s with txs := sent, rxbuf := response, phase := p, idx := i }) :
    Legal { s with txs := sent, rxbuf := response, phase := p, idx := i } where
  templates := h.templates
  pc := ⟨hi, fun idle => absurd idle hp⟩
  address := h.address
  exchange := fun _ => h.exchange busy
  send := fun _ => h.send busy
  result := h.result
  stream := hs
  queue := h.queue

/-- The byte sent extends the bytes already sent by the next offset (R66, R166, R167). -/
theorem legal_txStep {s : State} (h : Legal s) : Legal (txStep s) := by
  rcases txStep_cases s with ⟨hp, hi, he⟩ | ⟨b, hp, hi, hb, he⟩ | ⟨-, he⟩ <;> rw [he]
  case inr.inr => exact h
  all_goals
    have busy : s.phase ≠ .idle := by simp [hp]
    obtain ⟨before, sent⟩ : ∃ before, s.txs = before ++ s.txbuf.toList.take s.idx.toNat := by
      simpa only [streamLegal, hp] using h.stream
  · exact h.proceed busy nofun (Nat.zero_le 8) ⟨before, by simp [sent, hi, Frame.toList]⟩
  · obtain ⟨hlt, hnext⟩ := toNat_idx_succ h.pc.1 hi
    refine h.proceed busy nofun (hnext.trans_le hlt) ⟨before, ?_⟩
    show s.txs ++ [b] = before ++ s.txbuf.toList.take (s.idx + 1).toNat
    rw [sent, hnext, List.take_add_one, Frame.toList_getElem, hb, List.append_assoc]
    rfl

/-- The two streams of received bytes matter to no part but RXQ's (R41). -/
theorem Legal.receive {s : State} (h : Legal s) (rs q : List Byte)
    (hq : Config.rxStalePolicy = .discard → q = []) : Legal { s with rxs := rs, rxq := q } :=
  ⟨h.templates, h.pc, h.address, h.exchange, h.send, h.result, h.stream, hq⟩

/-- The receive step counts to 8, then completes (R168, R172). -/
theorem legal_storeRx (b : Byte) {s : State} (h : Legal s) (hp : s.phase = .rx) :
    Legal (storeRx b s) := by
  by_cases hi : s.idx = 8
  · rw [storeRx_last b hi]
    exact Grounded.legal_complete h.grounded
  · have busy : s.phase ≠ .idle := by simp [hp]
    obtain ⟨hlt, hnext⟩ := toNat_idx_succ h.pc.1 hi
    rw [storeRx_more b hi]
    exact h.proceed busy nofun (hnext.trans_le hlt)
      (by simpa only [streamLegal, hp] using h.stream)

theorem legal_rxByte (b : Byte) {s : State} (h : Legal s) : Legal (rxByte b s) := by
  by_cases hp : s.phase = .rx
  · rw [rxByte_rx b hp]
    exact legal_storeRx _ (h.receive _ _ fun hd => by rw [h.queue hd]; rfl) hp
  · rw [rxByte_other b hp]
    rcases staleByte_cases b s with ⟨he, hd⟩ | ⟨he, hd⟩ | ⟨he, -⟩ <;> rw [he]
    · exact h.receive _ _ h.queue
    · exact h.receive _ _ fun hd' => by rw [hd] at hd'; cases hd'
    · exact h

theorem legal_rxTake {s : State} (h : Legal s) : Legal (rxTake s) := by
  unfold rxTake
  split
  next b rest hp hq =>
    exact legal_storeRx b (h.receive s.rxs rest fun hd => by rw [h.queue hd] at hq; cases hq) hp
  next => exact h

theorem legal_tick {s : State} (h : Legal s) : Legal (tick s) := by
  by_cases hp : s.phase = .idle
  · rwa [tick_idle hp]
  rcases tick_cases s hp with ⟨hlt, he⟩ | ⟨-, he⟩ <;> rw [he]
  · obtain ⟨hop, hl, hd, -⟩ := h.exchange hp
    refine { h with exchange := fun _ => ⟨hop, hl, hd, ?_⟩ }
    bv_omega
  · exact Grounded.legal_abort h.grounded

theorem legal_linkError {s : State} (h : Legal s) : Legal (linkError s) := by
  rcases linkError_cases s with ⟨-, he⟩ | ⟨-, he⟩ <;> rw [he]
  · exact h
  · exact h.grounded.legal_abort

theorem legal_linkClose {s : State} (h : Legal s) : Legal (linkClose s) := by
  rcases linkError_cases { s with linkUp := false } with ⟨hp, he⟩ | ⟨-, he⟩ <;>
    rw [linkClose, he]
  · exact Grounded.legal_idle h.grounded hp (h.pc.2 hp) h.result
  · exact Grounded.legal_abort h.grounded

theorem legal_linkOpen {s : State} (h : Legal s) : Legal (linkOpen s) where
  templates := h.templates
  pc := h.pc
  address := h.address
  exchange := fun hp =>
    have ⟨hop, _, hd, ht⟩ := h.exchange hp
    ⟨hop, rfl, hd, ht⟩
  send := h.send
  result := h.result
  stream := h.stream
  queue := h.queue

/-- No part of the invariant speaks of an operand register (R23). -/
theorem legal_hostWrite (w : HostWrite) {s : State} (h : Legal s) : Legal (hostWrite w s) := by
  cases w <;>
    exact ⟨h.templates, h.pc, h.address, h.exchange, h.send, h.result, h.stream, h.queue⟩

/-- The registers after reset are legal over any table of distinct templates (R340). -/
theorem legal_resetBlock {s : State} (h : s.tpl.distinct = true) : Legal (resetBlock s) :=
  Grounded.legal_idle ⟨h, nofun, fun _ => rfl⟩ rfl rfl ⟨⟨Nat.zero_le 255, rfl⟩, nofun⟩

theorem stable_legal : Stable Legal where
  ports _ _ _ _ h :=
    ⟨h.templates, h.pc, h.address, h.exchange, h.send, h.result, h.stream, h.queue⟩
  hostWrite w _ := legal_hostWrite w
  operation op kind _ _ := legal_operation op kind
  txStep _ := legal_txStep
  rxByte b _ := legal_rxByte b
  rxTake _ := legal_rxTake
  tick _ := legal_tick
  linkError _ := legal_linkError
  linkOpen _ := legal_linkOpen
  linkClose _ := legal_linkClose

/-- Settles O45: every change of the block keeps the invariant, and so does reset. -/
theorem everyStepKeepsTheInvariant : Obligations.EveryStepKeepsTheInvariant :=
  fun _ _ h hst => stable_legal.step hst (fun _ _ hu => legal_resetBlock hu.templates) h

/-- Settles O44: the state after reset is itself a reset, and the default templates are distinct. -/
theorem resetStateIsLegal : Obligations.ResetStateIsLegal :=
  legal_resetBlock (s := State.reset) (by decide)

end Sys2Proof.Safety

/-! ### What every change but reset keeps -/

namespace Sys2Proof.Safety

open Sys2Proof.Machine

/-- The state `t` has what no change but reset takes from `s`: the templates, an address once set,
and the bytes sent (R21, R36, R38). -/
structure Preserves (s t : State) : Prop where
  templates : t.tpl = s.tpl
  address : s.cfg = true → t.cfg = true ∧ t.devaddr = s.devaddr
  stream : s.txs <+: t.txs

namespace Preserves

theorem refl (s : State) : Preserves s s := ⟨rfl, fun hc => ⟨hc, rfl⟩, List.prefix_refl _⟩

/-- A change of other registers. -/
theorem other {s t u : State} (h : Preserves s t) (htpl : u.tpl = t.tpl) (hcfg : u.cfg = t.cfg)
    (hdev : u.devaddr = t.devaddr) (htxs : u.txs = t.txs) : Preserves s u where
  templates := htpl.trans h.templates
  address hc := ⟨hcfg.trans (h.address hc).1, hdev.trans (h.address hc).2⟩
  stream := htxs ▸ h.stream

/-- The end of an operation writes result registers only (R311). -/
theorem endOp {e : Ending} {s t : State} (h : Preserves s t) : Preserves s (endOp e t) :=
  h.other (endOp_tpl e t) (endOp_cfg e t) (endOp_devaddr e t) (endOp_txs e t)

theorem abort (c : Cause) {s t : State} (h : Preserves s t) : Preserves s (abort c t) :=
  endOp (h.other rfl rfl rfl rfl)

theorem startExchange {c : Frame} {s t : State} (h : Preserves s t) :
    Preserves s (startExchange c t) := by
  rcases startExchange_cases c t with ⟨-, he⟩ | ⟨-, -, he⟩ | ⟨-, -, he⟩ <;> rw [he]
  · exact h.endOp
  · exact h.endOp
  · exact h.other rfl rfl rfl rfl

theorem complete {s t : State} (h : Preserves s t) : Preserves s (complete t) := by
  rcases complete_cases t with ⟨-, -, he⟩ | ⟨-, -, he⟩ | ⟨-, he⟩ <;> rw [he] <;>
    exact endOp (h.other rfl rfl rfl rfl)

theorem storeRx (b : Byte) {s t : State} (h : Preserves s t) : Preserves s (storeRx b t) := by
  by_cases hi : t.idx = 8
  · rw [storeRx_last b hi]
    exact complete (h.other rfl rfl rfl rfl)
  · rw [storeRx_more b hi]
    exact h.other rfl rfl rfl rfl

/-- CFGADDR writes the address of a block that has none; no other operation writes it (R200). -/
theorem operation (op : BitVec 3) (kind : BitVec 5) {s t : State} (h : Preserves s t) :
    Preserves s (operation op kind t) := by
  rcases operation_cases op kind with he | he | he | he | he | he | ⟨code, he⟩ <;> rw [he]
  · -- CFGADDR
    rcases cfgaddrOp_cases t with ⟨-, he⟩ | ⟨-, -, he⟩ | ⟨hc, -, -, he⟩ <;> rw [he]
    · exact endOp (h.other rfl rfl rfl rfl)
    · exact endOp (h.other rfl rfl rfl rfl)
    · have unset : ¬ s.cfg = true := fun hs => by simp [(h.address hs).1] at hc
      exact endOp ⟨h.templates, fun hs => absurd hs unset, h.stream⟩
  · -- ENCODE
    exact endOp (h.other rfl rfl rfl rfl)
  · -- DECODE
    exact endOp (h.other rfl rfl rfl rfl)
  · -- BUILD
    rcases buildOp_cases kind t with ⟨a, he⟩ | ⟨k, f, -, -, -, he⟩ <;> rw [he]
    · exact endOp (h.other rfl rfl rfl rfl)
    · exact endOp (h.other rfl rfl rfl rfl)
  · -- EXECUTE
    exact startExchange (h.other rfl rfl rfl rfl)
  · -- SEND
    rcases sendOp_cases kind t with ⟨a, he⟩ | ⟨k, f, -, -, -, -, he⟩ <;> rw [he]
    · exact endOp (h.other rfl rfl rfl rfl)
    · exact startExchange (h.other rfl rfl rfl rfl)
  · -- reserved
    exact endOp (h.other rfl rfl rfl rfl)

/-- The transmit step alone writes TXS, and it appends (R38, R166). -/
theorem txStep {s t : State} (h : Preserves s t) : Preserves s (txStep t) := by
  rcases txStep_cases t with ⟨-, -, he⟩ | ⟨b, -, -, -, he⟩ | ⟨-, he⟩ <;> rw [he]
  · exact ⟨h.templates, h.address, h.stream.trans (List.prefix_append _ _)⟩
  · exact ⟨h.templates, h.address, h.stream.trans (List.prefix_append _ _)⟩
  · exact h

theorem rxByte (b : Byte) {s t : State} (h : Preserves s t) : Preserves s (rxByte b t) := by
  by_cases hp : t.phase = .rx
  · rw [rxByte_rx b hp]
    exact storeRx _ (h.other rfl rfl rfl rfl)
  · rw [rxByte_other b hp]
    rcases staleByte_cases b t with ⟨he, -⟩ | ⟨he, -⟩ | ⟨he, -⟩ <;> rw [he] <;>
      exact h.other rfl rfl rfl rfl

theorem rxTake {s t : State} (h : Preserves s t) : Preserves s (rxTake t) := by
  unfold Machine.rxTake
  split
  · exact storeRx _ (h.other rfl rfl rfl rfl)
  · exact h

theorem tick {s t : State} (h : Preserves s t) : Preserves s (tick t) := by
  by_cases hp : t.phase = .idle
  · rwa [tick_idle hp]
  rcases tick_cases t hp with ⟨-, he⟩ | ⟨-, he⟩ <;> rw [he]
  · exact h.other rfl rfl rfl rfl
  · exact abort _ (h.other rfl rfl rfl rfl)

theorem linkError {s t : State} (h : Preserves s t) : Preserves s (linkError t) := by
  rcases linkError_cases t with ⟨-, he⟩ | ⟨-, he⟩ <;> rw [he]
  · exact h
  · exact abort _ h

/-- Every change of a block but reset keeps the three. -/
theorem stable (s : State) : Stable (Preserves s) where
  ports _ _ _ _ h := h.other rfl rfl rfl rfl
  hostWrite w t h :=
    h.other (hostWrite_tpl w t) (hostWrite_cfg w t) (hostWrite_devaddr w t) (hostWrite_txs w t)
  operation op kind _ _ := operation op kind
  txStep _ := txStep
  rxByte b _ := rxByte b
  rxTake _ := rxTake
  tick _ := tick
  linkError _ := linkError
  linkOpen _ h := h.other rfl rfl rfl rfl
  linkClose _ h := linkError (h.other rfl rfl rfl rfl)

/-- What follows from the three is kept too. -/
theorem stable_of {P : State → Prop} (hP : ∀ s t, Preserves s t → P s → P t) : Stable P where
  ports s p r n := hP s _ ((stable s).ports s p r n (refl s))
  hostWrite w s := hP s _ ((stable s).hostWrite w s (refl s))
  operation op kind s _ := hP s _ (operation op kind (refl s))
  txStep s := hP s _ (refl s).txStep
  rxByte b s := hP s _ (rxByte b (refl s))
  rxTake s := hP s _ (refl s).rxTake
  tick s := hP s _ (refl s).tick
  linkError s := hP s _ (refl s).linkError
  linkOpen s := hP s _ ((stable s).linkOpen s (refl s))
  linkClose s := hP s _ ((stable s).linkClose s (refl s))

/-- A step that is no reset keeps the three. -/
theorem step {s t : State} (h : step s = .next t) (hr : isReset (nextEvent s).1 = false) :
    Preserves s t :=
  (stable s).step h (fun hr' => by simp [hr] at hr') (refl s)

end Preserves

/-- Settles O47: every other change keeps the templates, and so does reset. -/
theorem templatesAreConstant : Obligations.TemplatesAreConstant := fun s _ h =>
  (Preserves.stable_of (P := fun t => t.tpl = s.tpl) fun _ _ hst => hst.templates.trans).step h
    (fun _ u hu => (resetBlock_tpl u).trans hu) rfl

/-- Settles O48: of all changes CFGADDR alone writes the address, while there is none. -/
theorem addressIsImmutableOnceSet : Obligations.AddressIsImmutableOnceSet :=
  fun _ _ h hc hr => (Preserves.step h hr).address hc

/-- Settles O49: of all changes the transmit step alone writes TXS, at its end. -/
theorem transmitStreamOnlyGrows : Obligations.TransmitStreamOnlyGrows := fun _ _ h hr =>
  have ⟨bs, hbs⟩ := (Preserves.step h hr).stream
  ⟨bs, hbs.symm⟩

end Sys2Proof.Safety

/-! ### Only the next start reads the operand registers -/

namespace Sys2Proof.Safety

open Sys2Proof.Machine

/-- A change of the block that neither reads nor writes an operand register. -/
def OperandBlind (f : State → State) : Prop :=
  ∀ (w : HostWrite) (s : State), f (hostWrite w s) = hostWrite w (f s)

namespace OperandBlind

theorem endOp : (e : Ending) → OperandBlind (endOp e)
  | .none | .wire _ none | .wire _ (some _) | .locl _ | .transport _ | .checksum =>
    fun w _ => by cases w <;> rfl

theorem abort (c : Cause) : OperandBlind (abort c) := fun w _ => by cases w <;> rfl

theorem linkOpen : OperandBlind linkOpen := fun w _ => by cases w <;> rfl

theorem withdraw : OperandBlind withdraw := fun w _ => by cases w <;> rfl

theorem complete : OperandBlind complete := fun w s => by
  unfold Machine.complete finishSend finishExecute
  simp only [hostWrite_lOp, hostWrite_rxbuf, hostWrite_lKind]
  split
  · split <;>
    · rw [← endOp]
      cases w <;> rfl
  · rw [← endOp]
    cases w <;> rfl

theorem storeRx (b : Byte) : OperandBlind (storeRx b) := fun w s => by
  unfold Machine.storeRx
  rw [hostWrite_idx]
  split
  · rw [← complete]
    cases w <;> rfl
  · cases w <;> rfl

theorem staleByte (b : Byte) : OperandBlind (staleByte b) := fun w s => by
  unfold Machine.staleByte
  simp only [hostWrite_rxq]
  split
  · cases w <;> rfl
  · split <;> cases w <;> rfl

theorem rxByte (b : Byte) : OperandBlind (rxByte b) := fun w s => by
  by_cases hp : s.phase = .rx
  · rw [rxByte_rx b hp, rxByte_rx b ((hostWrite_phase w s).trans hp), ← storeRx]
    cases w <;> rfl
  · rw [rxByte_other b hp, rxByte_other b (fun h => hp ((hostWrite_phase w s).symm.trans h))]
    exact staleByte b w s

theorem rxTake : OperandBlind rxTake := fun w s => by
  unfold Machine.rxTake
  simp only [hostWrite_phase, hostWrite_rxq]
  split
  · rw [← storeRx]
    cases w <;> rfl
  · rfl

theorem txStep : OperandBlind txStep := fun w s => by
  unfold Machine.txStep
  simp only [hostWrite_phase, hostWrite_txbuf, hostWrite_idx]
  split
  · split
    · split <;> cases w <;> rfl
    · rfl
  · rfl
  · rfl

theorem tick : OperandBlind tick := fun w s => by
  unfold Machine.tick
  simp only [hostWrite_phase, hostWrite_lLimit, hostWrite_timer]
  split
  · rfl
  all_goals
    split
    · rw [← abort]
      cases w <;> rfl
    · cases w <;> rfl

theorem linkError : OperandBlind linkError := fun w s => by
  unfold Machine.linkError
  rw [hostWrite_phase]
  split
  · rfl
  · exact abort _ w s
  · exact abort _ w s

theorem linkClose : OperandBlind linkClose := fun w s => by
  unfold Machine.linkClose
  rw [← linkError]
  cases w <;> rfl

theorem whenPort {f : State → State} (b : Bool) (hf : OperandBlind f) :
    OperandBlind (whenPort b f) := by
  cases b
  · exact fun _ _ => rfl
  · exact hf

theorem rxPort : (d : Option Byte) → OperandBlind (rxPort d)
  | none => fun _ _ => rfl
  | some b => rxByte b

theorem rxBytes : (bs : List Byte) → OperandBlind (rxBytes bs)
  | [] => fun _ _ => rfl
  | b :: bs => fun w s => by
    simp only [Machine.rxBytes]
    rw [rxByte, rxBytes bs]

/-- At an edge without reset every port event is blind (R174). -/
theorem clockEdge {p : Pins} (hr : p.rst = false) : OperandBlind (clockEdge p) := fun w s => by
  simp only [Machine.clockEdge, hr, Bool.false_eq_true, if_false]
  have link : (if p.linkUp = true then Machine.linkOpen (hostWrite w s)
      else Machine.linkClose (hostWrite w s)) =
      hostWrite w (if p.linkUp = true then Machine.linkOpen s else Machine.linkClose s) := by
    split_ifs
    · exact linkOpen w s
    · exact linkClose w s
  rw [link, whenPort p.linkErr linkError, rxPort, whenPort p.txReady txStep,
    whenPort p.tickMs tick, whenPort (!p.opValid) withdraw]

/-- An event whose effect is blind commutes with the write. -/
theorem next {f : State → State} (hf : OperandBlind f) (w : HostWrite) (s : State) :
    (.next (f (hostWrite w s)) : Host.Outcome State Fault Refusal) =
      after (.next (f s)) (hostWrite w) :=
  congrArg Host.Outcome.next (hf w s)

theorem moving {f : State → State} (hf : OperandBlind f) (w : HostWrite) (s : State) :
    moving f (hostWrite w s) = after (moving f s) (hostWrite w) := by
  have bad : (hostWrite w s).badOffset = s.badOffset := by cases w <;> rfl
  unfold Machine.moving
  rw [bad]
  split
  · rfl
  · exact next hf w s

end OperandBlind

/-- Settles O28: each event but a write, a reset and an accepted start is blind. -/
theorem operandWritesReachOnlyTheNextStart : Obligations.OperandWritesReachOnlyTheNextStart := by
  intro w i s hreset hwrite hstart
  cases i with
  | present st => exact OperandBlind.next (f := present st) (fun w _ => by cases w <;> rfl) w s
  | withdraw => exact OperandBlind.withdraw.next w s
  | write v => exact absurd rfl (hwrite v)
  | linkTakes => exact OperandBlind.txStep.moving w s
  | rxByte b => exact (OperandBlind.rxByte b).moving w s
  | rxTake => exact OperandBlind.rxTake.moving w s
  | rxFrame f =>
    rw [runInput_rxFrame, runInput_rxFrame]
    exact (OperandBlind.rxBytes f.toList).moving w s
  | tick => exact OperandBlind.tick.next w s
  | linkErr => exact OperandBlind.linkError.next w s
  | linkOpen => exact OperandBlind.linkOpen.next w s
  | linkClose => exact OperandBlind.linkClose.next w s
  | rst => cases hreset
  | edge p =>
    have hr : p.rst = false := hreset
    have hs : s.phase ≠ .idle ∨ p.opValid = false := by simpa [offersStart, hr] using hstart
    have hs' : (hostWrite w s).phase ≠ .idle ∨ p.opValid = false := by rwa [hostWrite_phase]
    rw [runInput, runInput, runEdge_noStart hr hs, runEdge_noStart hr hs']
    exact (OperandBlind.clockEdge hr).moving w s

end Sys2Proof.Safety

/-! ### The host's view: operand registers, reset values, status registers -/

namespace Sys2Proof.Machine

open Sys2Proof.Safety

/-- Settles O27: the step that handles the write is the write. -/
theorem hostWriteSetsOneOperand : Obligations.HostWriteSetsOneOperand := by
  intro w rest s hp hi
  rw [step_input hp hi]
  cases w <;> rfl

/-- Settles O42: the model's reset state holds the values of R20 as written. -/
theorem resetValuesOfTheSpec : Obligations.ResetValuesOfTheSpec :=
  ⟨rfl, rfl, rfl, rfl, rfl, rfl, rfl, rfl, rfl⟩

/-- Cutting above the low part of a concatenation cuts the high part. -/
theorem extract_high {v w start len : Nat} {hi : BitVec v} {lo : BitVec w} {x : BitVec len}
    (h : hi.extractLsb' start len = x) : (hi ++ lo).extractLsb' (w + start) len = x := by
  rw [BitVec.extractLsb'_append_eq_of_le (Nat.le_add_right w start), Nat.add_sub_cancel_left, h]

theorem bit_busy (s : State) : bit s.busy = if s.phase = .idle then 0 else 1 := by
  simp only [bit, busy_iff, ne_eq, ite_not]

open BitVec in
/-- STATUSREG holds its five fields at the bits of R22. -/
theorem statusreg_fields (s : State) :
    s.statusreg.extractLsb' 0 1 = bit s.busy ∧ s.statusreg.extractLsb' 1 1 = bit s.done ∧
    s.statusreg.extractLsb' 2 1 = bit s.cfg ∧ s.statusreg.extractLsb' 3 2 = phaseCode s.phase ∧
    s.statusreg.extractLsb' 5 4 = s.idx :=
  ⟨extractLsb'_append_eq_right,
    extract_high (start := 0) extractLsb'_append_eq_right,
    extract_high (start := 1) (extract_high (start := 0) extractLsb'_append_eq_right),
    extract_high (start := 2) (extract_high (start := 1)
      (extract_high (start := 0) extractLsb'_append_eq_right)),
    extract_high (start := 4) (extract_high (start := 3)
      (extract_high (start := 2) extractLsb'_append_eq_left))⟩

open BitVec in
/-- RESULT holds its four fields at the bits of R22. -/
theorem result_fields (s : State) :
    s.result.extractLsb' 0 2 = classCode s.rClass ∧ s.result.extractLsb' 2 16 = s.rCode ∧
    s.result.extractLsb' 18 4 = s.rArg ∧ s.result.extractLsb' 22 1 = bit s.rHasvalue :=
  ⟨extractLsb'_append_eq_right,
    extract_high (start := 0) extractLsb'_append_eq_right,
    extract_high (start := 16) (extract_high (start := 0) extractLsb'_append_eq_right),
    extract_high (start := 20) (extract_high (start := 4) extractLsb'_append_eq_left)⟩

/-- Settles O54: the fields as they are packed, with their codes spelled out. -/
theorem statusRegistersPackTheirFields : Obligations.StatusRegistersPackTheirFields := by
  intro s
  obtain ⟨hbusy, hdone, hcfg, hphase, hidx⟩ := statusreg_fields s
  obtain ⟨hclass, hcode, harg, hvalue⟩ := result_fields s
  exact ⟨hbusy.trans (bit_busy s), hdone, hcfg, hphase, hidx, hclass, hcode, harg, hvalue⟩
end Sys2Proof.Machine

end

section
/-! PROOFS. The statement of 20_memory.md: one rule per access to a frame (R61, R62, R65). -/

namespace Sys2Proof

/-- A concatenation as a number: the high part above the low part's width. -/
theorem toNat_append_eq_mul_add {n m : Nat} (hi : BitVec n) (lo : BitVec m) :
    (hi ++ lo).toNat = hi.toNat * 2 ^ m + lo.toNat := by
  rw [BitVec.toNat_append, ← Nat.shiftLeft_add_eq_or_of_lt lo.isLt, Nat.shiftLeft_eq]

/-- The value field is big-endian (R61). -/
theorem Frame.value_toNat (f : Frame) :
    f.value.toNat =
      f.b4.toNat * 2 ^ 24 + f.b5.toNat * 2 ^ 16 + f.b6.toNat * 2 ^ 8 + f.b7.toNat := by
  rw [Frame.value, toNat_append_eq_mul_add, toNat_append_eq_mul_add, toNat_append_eq_mul_add]
  ring

/-- A value write stores the most significant byte at offset 4, the least at offset 7 (R61). -/
theorem Frame.byteAt_setValue (f : Frame) (v : Word32) {j : Nat} (hj : j < 4) :
    (f.setValue v).byteAt (4 + j) = some (v.extractLsb' (24 - 8 * j) 8) := by
  interval_cases j <;> rfl

/-- The byte at offset `4 + j` is byte `j` of the value (R62). -/
theorem Frame.byteAt_value (f : Frame) {j : Nat} (hj : j < 4) :
    f.byteAt (4 + j) = some (f.value.extractLsb' (24 - 8 * j) 8) := by
  simpa only [Frame.setValue_value] using f.byteAt_setValue f.value hj

theorem Frame.memRead_value (f : Frame) : f.memRead 4 4 = some f.value := rfl

theorem Frame.memWrite_value (f : Frame) (v : Word32) :
    f.memWrite 4 4 v = some (f.setValue v) := rfl

theorem Frame.memRead_byte {f : Frame} {off : Nat} {b : Byte} (h : f.byteAt off = some b) :
    f.memRead off 1 = some (b.setWidth 32) := by
  rw [Frame.memRead, if_pos rfl, h, Option.map_some]

theorem Frame.memWrite_byte (f : Frame) {off : Nat} (h : off ≤ 8) (v : Word32) :
    f.memWrite off 1 v = some (f.setByte off (v.setWidth 8)) :=
  if_pos ⟨rfl, h⟩

/-- No other offset or width can be read (R65, log 29). -/
theorem Frame.memRead_none (f : Frame) {off n : Nat} (hbyte : ¬ (n = 1 ∧ off ≤ 8))
    (hvalue : ¬ (n = 4 ∧ off = 4)) : f.memRead off n = none := by
  rw [Frame.memRead, if_neg hvalue]
  split
  case isTrue hn =>
    rw [Frame.byteAt_none f off (by omega), Option.map_none]
  case isFalse => rfl

/-- No other offset or width can be written (R65, log 29). -/
theorem Frame.memWrite_none (f : Frame) {off n : Nat} (v : Word32) (hbyte : ¬ (n = 1 ∧ off ≤ 8))
    (hvalue : ¬ (n = 4 ∧ off = 4)) : f.memWrite off n v = none := by
  rw [Frame.memWrite, if_neg hbyte, if_neg hvalue]

/-- Settles O6: the rule of each access, four bytes, one byte and none. -/
theorem frameSpaceAccessIsBigEndian : Obligations.FrameSpaceAccessIsBigEndian := by
  refine ⟨fun f v => ⟨?read, f.memWrite_value v, ?byte, ?other⟩, fun s off n => ⟨rfl, rfl⟩⟩
  case read => exact ⟨f.value, f.memRead_value, f.value_toNat, fun j hj => f.byteAt_value hj⟩
  case byte =>
    intro off hoff
    obtain ⟨b, hb⟩ := f.byteAt_some off hoff
    exact ⟨b, f.setByte off (v.setWidth 8), hb, Frame.memRead_byte hb, f.memWrite_byte hoff v,
      f.byteAt_setByte_same off _ hoff, fun k hk => f.byteAt_setByte_other off k _ hk⟩
  case other =>
    intro off n hbyte hvalue
    exact ⟨f.memRead_none hbyte hvalue, f.memWrite_none v hbyte hvalue⟩

end Sys2Proof

end

section
/-! PROOFS. The statements of 30_encoding.md. Each port's decoder has two lemmas, one per
direction of the round trip: what decodes has its own words (`words_decodeOp`, `words_of_decodeCmd`,
`words_of_decodeRsp`), and every instruction of the port decodes from its words
(`decodeOp_of_port`, `decodeCmd_of_port`, `decodeRsp_of_port`). -/

namespace Sys2Proof

/-! ### Operation words (R107, R110) -/

/-- The row that an operation code and the five low bits of its word select (R110). -/
def opRow (op : BitVec 3) (low : BitVec 5) : Instr :=
  match op.toNat with
  | 0 => .cfgaddr low
  | 1 => .encode low
  | 2 => .decode low
  | 3 => .build low
  | 4 => .execute low
  | 5 => decodeSend low
  | 6 => .reserved6 low
  | _ => .reserved7 low

theorem opWord_extractLsb' (w : Byte) : opWord (w.extractLsb' 5 3) (w.extractLsb' 0 5) = w :=
  (BitVec.extractLsb'_append_extractLsb'_eq_extractLsb' rfl).trans BitVec.extractLsb'_eq_self

theorem decodeOp_opWord (op : BitVec 3) (low : BitVec 5) :
    decodeOp (opWord op low) = opRow op low := by
  simp only [decodeOp, opWord, BitVec.extractLsb'_append_eq_left,
    BitVec.extractLsb'_append_eq_right]
  rfl

/-- The rows of SEND have the words they are decoded from, the reserved groups too (R100, R107). -/
theorem words_decodeSend : ∀ kind : BitVec 5,
    (decodeSend kind).port = .op ∧ encode (decodeSend kind) = [opWord 5 kind] := by decide

theorem words_opRow (op : BitVec 3) (low : BitVec 5) :
    (opRow op low).port = .op ∧ encode (opRow op low) = [opWord op low] := by
  match op with
  | 0 | 1 | 2 | 3 | 4 | 6 | 7 => exact ⟨rfl, rfl⟩
  | 5 => exact words_decodeSend low

theorem words_decodeOp (w : Byte) : (decodeOp w).port = .op ∧ encode (decodeOp w) = [w] := by
  rw [← opWord_extractLsb' w, decodeOp_opWord]
  exact words_opRow _ _

/-- Every instruction of the operation port is the row of a code and five low bits. -/
theorem opRow_of_port {i : Instr} (hp : i.port = .op) :
    ∃ op low, encode i = [opWord op low] ∧ opRow op low = i := by
  cases i <;> cases hp
  case sendReserved18to19 low => exact ⟨_, _, rfl, by revert low; decide⟩
  case sendReserved20to23 low => exact ⟨_, _, rfl, by revert low; decide⟩
  case sendReserved24to31 low => exact ⟨_, _, rfl, by revert low; decide⟩
  all_goals exact ⟨_, _, rfl, rfl⟩

theorem decodeOp_of_port {i : Instr} (hp : i.port = .op) :
    ∃ w, encode i = [w] ∧ decodeOp w = i := by
  obtain ⟨op, low, hw, hi⟩ := opRow_of_port hp
  exact ⟨opWord op low, hw, (decodeOp_opWord op low).trans hi⟩

/-! ### Command frames (R90, R101 to R103) -/

/-- One row of the command decoder: a frame with the row's template has the row's words. -/
theorem words_of_row {f : Frame} {t : Template} {row i : Instr} {rest : Except DecodeError Instr}
    (hrow : row.port = .cmd ∧ encode row = (cmdFrame t f.cmdFields).toList)
    (hrest : rest = .ok i → i.port = .cmd ∧ encode i = f.toList)
    (h : (if f.hasTemplate t then .ok row else rest) = Except.ok i) :
    i.port = .cmd ∧ encode i = f.toList := by
  split_ifs at h with ht
  · cases h
    rwa [cmdFrame_of_hasTemplate ht] at hrow
  · exact hrest h

theorem words_of_decodeCmd {f : Frame} {i : Instr} (h : decodeCmd f = .ok i) :
    i.port = .cmd ∧ encode i = f.toList := by
  unfold decodeCmd at h
  iterate 19 refine words_of_row ⟨rfl, rfl⟩ (fun h => ?_) h
  cases h

@[simp] theorem hasTemplate_cmdFrame (t u : Template) (x : CmdFields) :
    (cmdFrame t x).hasTemplate u = decide (t = u) := by
  obtain ⟨c, ty, m⟩ := t
  obtain ⟨c', ty', m'⟩ := u
  simp [Frame.hasTemplate, Bool.beq_eq_decide_eq, Bool.and_assoc]

/-- No earlier row has the template of a later one (R101), so a row's frame decodes to the row. -/
theorem decodeCmd_of_port {i : Instr} (hp : i.port = .cmd) :
    ∃ f, encode i = f.toList ∧ decodeCmd f = .ok i := by
  cases i <;> cases hp
  all_goals exact ⟨_, rfl, by simp [decodeCmd, TemplateTable.default]⟩

/-! ### Response frames (R91, R104, R106) -/

theorem rspFrame_of_status {f : Frame} {b : Byte} (h : f.b2.toNat = b.toNat) :
    rspFrame b f.rspFields = f :=
  BitVec.eq_of_toNat_eq h ▸ rspFrame_rspFields_self f

theorem words_of_decodeRsp {f : Frame} {i : Instr} (h : decodeRsp f = .ok i) :
    i.port = .rsp ∧ encode i = f.toList := by
  unfold decodeRsp at h
  split at h <;> cases h
  all_goals exact ⟨rfl, congrArg Frame.toList (rspFrame_of_status ‹_›)⟩

theorem decodeRsp_of_port {i : Instr} (hp : i.port = .rsp) :
    ∃ f, encode i = f.toList ∧ decodeRsp f = .ok i := by
  cases i <;> cases hp
  all_goals exact ⟨_, rfl, by simp [decodeRsp]⟩

/-- Settles O40: the named rows of the decoder are the eight status bytes of R104. -/
theorem unnamedStatusIsRefusedByName : Obligations.UnnamedStatusIsRefusedByName := by
  intro f
  unfold decodeRsp
  split
  case h_9 h1 h2 h3 h4 h5 h6 h100 h101 =>
    simpa [← BitVec.toNat_inj] using ⟨h1, h2, h3, h4, h5, h6, h100, h101⟩
  all_goals
    rename_i h
    simp [← BitVec.toNat_inj, h]

/-! ### Every port -/

/-- A frame port passes on what its decoder gives, with the rest of the bytes. -/
theorem map_rest_eq_ok_iff {x : Except DecodeError Instr} {rest rest' : List Byte} {i : Instr} :
    x.map (·, rest) = .ok (i, rest') ↔ x = .ok i ∧ rest = rest' := by
  cases x <;> simp [Except.map]

/-- Settles O37: at each port an instruction decodes from its words. -/
theorem encodeThenDecodeIsIdentity : Obligations.EncodeThenDecodeIsIdentity := by
  intro i rest
  cases hp : i.port with
  | op =>
    obtain ⟨w, hw, hi⟩ := decodeOp_of_port hp
    rw [hw, List.singleton_append, decodeBytes, hi]
  | cmd =>
    obtain ⟨f, hf, hi⟩ := decodeCmd_of_port hp
    rw [hf, decodeBytes_cmd, map_rest_eq_ok_iff]
    exact ⟨hi, rfl⟩
  | rsp =>
    obtain ⟨f, hf, hi⟩ := decodeRsp_of_port hp
    rw [hf, decodeBytes_rsp, map_rest_eq_ok_iff]
    exact ⟨hi, rfl⟩

/-- Settles O38: at each port what decodes has its own words. -/
theorem decodeThenEncodeIsIdentity : Obligations.DecodeThenEncodeIsIdentity := by
  intro p bs rest i h
  unfold decodeBytes at h
  split at h
  case h_1 w _ =>
    obtain ⟨rfl, rfl⟩ := Prod.mk.inj (Except.ok.inj h)
    obtain ⟨hp, hw⟩ := words_decodeOp w
    exact ⟨hp, congrArg (· ++ _) hw⟩
  case h_2 =>
    obtain ⟨hi, rfl⟩ := map_rest_eq_ok_iff.mp h
    obtain ⟨hp, hw⟩ := words_of_decodeCmd hi
    exact ⟨hp, congrArg (· ++ _) hw⟩
  case h_3 =>
    obtain ⟨hi, rfl⟩ := map_rest_eq_ok_iff.mp h
    obtain ⟨hp, hw⟩ := words_of_decodeRsp hi
    exact ⟨hp, congrArg (· ++ _) hw⟩
  case h_4 => cases h

/-- Settles O39: the decoder evaluated on the ten words. -/
theorem someWordsDecode : Obligations.SomeWordsDecode := by
  unfold Obligations.SomeWordsDecode
  decide

/-! ### ERROR_CODE (R8, R105) -/

theorem Config.errorCode_toNat : Config.errorCode.toNat = 1001 + Config.errorOffset.val :=
  (BitVec.toNat_ofNat ..).trans (Nat.mod_eq_of_lt (by omega))

/-- Settles O53: ERROR_CODE starts at 1001 and a byte ends at 255. -/
theorem errorIsNoWireStatus : Obligations.ErrorIsNoWireStatus := by
  have above := Config.errorCode_toNat
  refine ⟨by omega, fun b hb => ?_⟩
  have := congrArg BitVec.toNat hb
  rw [BitVec.toNat_setWidth_of_le (by omega)] at this
  omega

/-! ### What the reserved words do (R107, R202) -/

/-- The kinds are a closed set: the codes above 16 have none (R100, R107). -/
theorem Kind.ofCode_eq_none_iff :
    ∀ {code : BitVec 5}, Kind.ofCode code = none ↔ 16 < code.toNat := by decide

end Sys2Proof

namespace Sys2Proof.Machine

theorem buildOp_reserved {kind : BitVec 5} (h : 16 < kind.toNat) (s : State) :
    buildOp kind s = endOp (.locl .kind) (latchKind 3 kind s) := by
  rw [buildOp, Kind.ofCode_eq_none_iff.mpr h]

theorem buildOp_addrNotSet {kind : BitVec 5} {s : State} (hk : ¬ 16 < kind.toNat)
    (hc : s.cfg = false) : buildOp kind s = endOp (.locl .addrNotSet) (latchKind 3 kind s) := by
  obtain ⟨k, hk⟩ := Option.ne_none_iff_exists'.mp (mt Kind.ofCode_eq_none_iff.mp hk)
  rw [buildOp, hk]
  exact if_pos hc

theorem sendOp_reserved {kind : BitVec 5} (h : 16 < kind.toNat) (s : State) :
    sendOp kind s = endOp (.locl .kind) (latchSend kind s) := by
  rw [sendOp, Kind.ofCode_eq_none_iff.mpr h]

/-- Settles O10: the kind is looked at before the address. -/
theorem buildRejectsKindThenAddress : Obligations.BuildRejectsKindThenAddress := by
  intro kind s hp h
  refine (whenIdle_idle hp (buildOp kind)).trans (congrArg _ ?_)
  by_cases hk : 16 < kind.toNat
  · rw [buildOp_reserved hk, if_pos hk]
    rfl
  · rw [buildOp_addrNotSet hk (h.resolve_left hk), if_neg hk]
    rfl

/-- The reserved rows of SEND run `sendOp` on a kind above 16 (R107). -/
theorem exec_sendReserved {i : Instr} {kind : BitVec 5} (s : State)
    (h : i = .sendReserved17 ∧ kind = 17 ∨
      (∃ x, i = .sendReserved18to19 x ∧ kind = 18 + x.setWidth 5) ∨
      (∃ x, i = .sendReserved20to23 x ∧ kind = 20 + x.setWidth 5) ∨
      (∃ x, i = .sendReserved24to31 x ∧ kind = 24 + x.setWidth 5)) :
    exec i s = whenIdle s (sendOp kind) ∧ 16 < kind.toNat := by
  have append_eq_add : (∀ x : BitVec 1, 0b1001#4 ++ x = 18 + x.setWidth 5) ∧
      (∀ x : BitVec 2, 0b101#3 ++ x = 20 + x.setWidth 5) ∧
      (∀ x : BitVec 3, 0b11#2 ++ x = 24 + x.setWidth 5) := by decide
  obtain ⟨h18, h20, h24⟩ := append_eq_add
  rcases h with ⟨rfl, rfl⟩ | ⟨x, rfl, rfl⟩ | ⟨x, rfl, rfl⟩ | ⟨x, rfl, rfl⟩
  · exact ⟨rfl, by decide⟩
  · exact ⟨h18 x ▸ rfl, by revert x; decide⟩
  · exact ⟨h20 x ▸ rfl, by revert x; decide⟩
  · exact ⟨h24 x ▸ rfl, by revert x; decide⟩

/-- Settles O15: a reserved kind is no kind, a reserved code no operation. -/
theorem reservedWordsEndLocally : Obligations.ReservedWordsEndLocally := by
  refine fun s hp => ⟨fun i kind h => ?kinds, fun i op h => ?codes⟩
  case kinds =>
    obtain ⟨hexec, hkind⟩ := exec_sendReserved s h
    rw [hexec, whenIdle_idle hp, sendOp_reserved hkind, endOp_locl]
    rfl
  case codes =>
    rcases h with ⟨x, rfl, rfl⟩ | ⟨x, rfl, rfl⟩
    · exact whenIdle_idle hp (reservedOp 6)
    · exact whenIdle_idle hp (reservedOp 7)

end Sys2Proof.Machine

end

section
/-! PROOFS. The statements of 40_codec.md. What one byte does to the checksum is said once
(`Frame.chk_setByte`), and so is that no event stops a block while IDX names an offset
(`continues_runInput`). -/

namespace Sys2Proof

/-! ### The checksum (R140, R144, R146) -/

/-- A payload byte enters the sum once: with another value in its place the sum moves by the
difference (R140). -/
theorem Frame.chk_setByte {f : Frame} {k : Nat} {b : Byte} (hk : k < 8) (hb : f.byteAt k = some b)
    (c : Byte) : (f.setByte k c).chk = f.chk - b + c := by
  interval_cases k <;>
  · cases hb
    simp only [Frame.chk, Frame.setByte]
    ring

/-- The checksum byte is not part of the sum (R140). -/
theorem Frame.chk_setByte_eight (f : Frame) (c : Byte) : (f.setByte 8 c).chk = f.chk := rfl

theorem Frame.valid_iff {f : Frame} : f.valid = true ↔ f.b8 = f.chk := beq_iff_eq

/-- Of all values of one byte a valid frame has the only valid one: any other is detected (R146). -/
theorem Frame.valid_setByte_iff {f : Frame} {k : Nat} {b : Byte} (hf : f.valid = true)
    (hb : f.byteAt k = some b) (c : Byte) : (f.setByte k c).valid = true ↔ c = b := by
  rw [Frame.valid_iff] at hf ⊢
  rcases lt_trichotomy k 8 with hk | rfl | hk
  · have same_b8 : (f.setByte k c).b8 = f.b8 := by interval_cases k <;> rfl
    rw [same_b8, hf, Frame.chk_setByte hk hb, sub_add_eq_add_sub, eq_sub_iff_add_eq,
      add_right_inj, eq_comm]
  · rw [Frame.chk_setByte_eight, ← hf, ← Option.some.inj hb]
    rfl
  · rw [Frame.byteAt_none f k hk] at hb
    cases hb

/-- A byte with one bit flipped is another byte. -/
theorem xor_one_shiftLeft_ne (b : Byte) {bit : Nat} (h : bit < 8) :
    b ^^^ ((1 : Byte) <<< bit) ≠ b := by
  have bit_ne_zero : (1 : Byte) <<< bit ≠ 0 := by interval_cases bit <;> decide
  exact fun h => bit_ne_zero ((BitVec.xor_right_inj b).mp (h.trans BitVec.xor_zero.symm))

/-- Settles O5: a flipped byte is not the valid one. -/
theorem singleBitFlipIsDetected : Obligations.SingleBitFlipIsDetected := fun _ _ _ b hf hbit hb =>
  Bool.eq_false_iff.mpr <| mt (Frame.valid_setByte_iff hf hb _).mp (xor_one_shiftLeft_ne b hbit)

/-- Settles O1: reducing after each addition is reducing once. -/
theorem checksumIsSumModulo256 : Obligations.ChecksumIsSumModulo256 := fun f => by
  simp only [Frame.chk, BitVec.toNat_add, Nat.mod_add_mod, Nat.reducePow]

end Sys2Proof

namespace Sys2Proof.Machine

open Sys2Proof.Safety

/-! ### ENCODE and DECODE (R142, R143, R145) -/

theorem exec_encode (low : BitVec 5) {s : State} (hp : s.phase = .idle) :
    exec (.encode low) s = .next (encodeOp s) :=
  whenIdle_idle hp encodeOp

theorem exec_decode (low : BitVec 5) {s : State} (hp : s.phase = .idle) :
    exec (.decode low) s = .next (decodeOperand s) :=
  whenIdle_idle hp decodeOperand

/-- Settles O2: the end of ENCODE, with the frame it makes written out. -/
theorem encodeMakesTheFrame : Obligations.EncodeMakesTheFrame := fun low _ hp =>
  exec_encode low hp

/-- Settles O3: the end of DECODE, with the outputs it writes spelled out. -/
theorem decodeWritesSixOutputs : Obligations.DecodeWritesSixOutputs := fun low _ hp =>
  exec_decode low hp

/-- Settles O4: DECODE reads the fields of the frame, which are the operands of ENCODE. -/
theorem decodeOfEncodeReturnsTheFields : Obligations.DecodeOfEncodeReturnsTheFields :=
  fun le ld _ hp => ⟨_, _, exec_encode le hp, exec_decode ld rfl, encodeFrame_valid .., rfl, rfl,
    rfl, rfl, encodeFrame_value ..⟩

/-! ### No step of a legal state stops (R149, R213, R320) -/

/-- An idle block accepts every start: each operation word and each frame has a meaning
(R107, R160). -/
theorem continues_runStart (st : Start) {s : State} (hp : s.phase = .idle) :
    Continues (runStart st s) := by
  cases st with
  | op => exact ⟨_, (runStart_op s).trans (whenIdle_idle hp _)⟩
  | frame f => exact ⟨_, (runStart_frame f s).trans (whenIdle_idle hp _)⟩

theorem continues_moving {s : State} (hi : s.idx.toNat ≤ 8) (f : State → State) :
    Continues (moving f s) :=
  ⟨_, moving_ok hi f⟩

/-- A byte that reaches an idle block is stale and starts nothing (R173). -/
theorem rxPort_idle (d : Option Byte) {s : State} (hp : s.phase = .idle) :
    (rxPort d s).phase = .idle := by
  cases d with
  | none => exact hp
  | some b =>
    rw [rxPort, rxByte_other b (by simp [hp])]
    rcases staleByte_cases b s with ⟨he, -⟩ | ⟨he, -⟩ | ⟨he, -⟩ <;> rw [he] <;> exact hp

/-- The link of an idle block closes without an outcome (R171, R346). -/
theorem linkClose_idle {s : State} (hp : s.phase = .idle) :
    linkClose s = { s with linkUp := false } :=
  linkError_idle (s := { s with linkUp := false }) hp

/-- The port events of an edge leave an idle block idle: only a start leaves IDLE (R160, R178). -/
theorem clockEdge_idle (p : Pins) {s : State} (hp : s.phase = .idle) :
    (clockEdge p s).phase = .idle := by
  have on_port {f : State → State} (b : Bool) (hf : ∀ {s : State}, s.phase = .idle → f s = s)
      {s : State} (hs : s.phase = .idle) : (whenPort b f s).phase = .idle :=
    whenPort_keeps (P := fun s => s.phase = .idle) b (fun _ hs => (hf hs).symm ▸ hs) hs
  refine whenPort_keeps (P := fun s => s.phase = .idle) _ (fun _ => id) ?_
  split_ifs
  · rfl
  all_goals
    refine on_port _ tick_idle <| on_port _ (fun hs => txStep_other (by simp [hs])) <|
      rxPort_idle _ <| on_port _ linkError_idle ?_
  · exact hp
  · exact linkClose_idle hp ▸ hp

/-- An edge that accepts an operation finds the block idle after its port events too (R180). -/
theorem continues_runEdge (p : Pins) {s : State} (hi : s.idx.toNat ≤ 8) :
    Continues (runEdge p s) := by
  by_cases hr : p.rst = true
  · exact ⟨_, runEdge_rst hr⟩
  by_cases hp : s.phase = .idle
  · rw [runEdge_idle (by simpa using hr) hp]
    split
    · exact continues_runStart .op (clockEdge_idle p hp)
    · exact ⟨_, rfl⟩
  · exact ⟨_, runEdge_busy (by simpa using hr) hp hi⟩

/-- While IDX names an offset of a frame, no event stops the machine (R27). -/
theorem continues_runInput (i : Input) {s : State} (hi : s.idx.toNat ≤ 8) :
    Continues (runInput i s) := by
  cases i with
  | linkTakes => exact continues_moving hi txStep
  | rxByte b => exact continues_moving hi (rxByte b)
  | rxTake => exact continues_moving hi rxTake
  | rxFrame f => exact runInput_rxFrame f s ▸ continues_moving hi (rxBytes f.toList)
  | edge p => exact continues_runEdge p hi
  | _ => exact ⟨_, rfl⟩

/-- Settles O46: a start is accepted in IDLE only, and the IDX of a legal state names an offset. -/
theorem legalStatesNeverStop : Obligations.LegalStatesNeverStop := by
  intro s h
  have hi : s.idx.toNat ≤ 8 := h.pc.1
  unfold step
  rcases nextEvent_cases s with ⟨st, -, hp, he⟩ | ⟨i, rest, -, -, he⟩ | ⟨-, -, he⟩ <;> rw [he]
  · exact continues_runStart st hp
  · exact continues_runInput i hi
  · exact continues_runInput _ hi

end Sys2Proof.Machine

end

section
/-! PROOFS. The statements of 41_exchange.md. Each operation, byte event and failure has one rule, and
a whole frame is its nine bytes (`txSteps_rest`, `rxBytes_complete`). Of every event in an exchange
three facts are said once: it takes nothing that waits at the ports (`runInput_keepsPorts`), it ends
the exchange or not as `endsExchange` says (`runInput_progress`), and an edge is its port events in
order (`clockEdge_order`). -/

namespace Sys2Proof

theorem Kind.ofCode_code (k : Kind) : Kind.ofCode k.code = some k := by
  cases k <;> rfl

theorem Frame.toList_setByte (f : Frame) {k : Nat} (h : k ≤ 8) (b : Byte) :
    (f.setByte k b).toList = f.toList.set k b := by
  interval_cases k <;> rfl

/-- A byte written at an offset follows the bytes below it. -/
theorem Frame.take_setByte (f : Frame) {k : Nat} (h : k ≤ 8) (b : Byte) :
    (f.setByte k b).toList.take (k + 1) = f.toList.take k ++ [b] := by
  rw [Frame.toList_setByte f h, List.take_add_one, List.take_set_of_le (le_refl k),
    List.getElem?_set_self (by simp; omega)]
  rfl

end Sys2Proof

namespace Sys2Proof.Machine

open Sys2Proof.Safety

/-! ### The instructions of each port -/

/-- An operation word starts an operation (R107, R110). -/
theorem exec_of_port_op {i : Instr} (hp : i.port = .op) :
    ∃ op kind, ∀ s, exec i s = whenIdle s (operation op kind) := by
  obtain ⟨op, kind, -, rfl⟩ := opRow_of_port hp
  exact ⟨op, kind, fun s => decodeOp_opWord op kind ▸ exec_decodeOp op kind s⟩

/-- A command frame writes its words (R90). -/
theorem exec_of_port_cmd {i : Instr} {f : Frame} (hp : i.port = .cmd)
    (hf : encode i = f.toList) (s : State) : exec i s = writeFrame f s := by
  obtain ⟨g, hg, hi⟩ := decodeCmd_of_port hp
  rw [Frame.toList_injective (hf.symm.trans hg), exec_of_decodeCmd hi]

/-- A response frame reads its words (R91, R104). -/
theorem exec_of_port_rsp {i : Instr} {f : Frame} (hp : i.port = .rsp)
    (hf : encode i = f.toList) (s : State) : exec i s = readFrame f s := by
  obtain ⟨g, hg, hi⟩ := decodeRsp_of_port hp
  rw [Frame.toList_injective (hf.symm.trans hg), exec_of_decodeRsp hi]

theorem exec_sendInstr (k : Kind) (s : State) :
    exec (sendInstr k) s = whenIdle s (sendOp k.code) := by
  cases k <;> rfl

theorem exec_execute (low : BitVec 5) {s : State} (hp : s.phase = .idle) :
    exec (.execute low) s = .next (executeOp s) :=
  whenIdle_idle hp executeOp

/-! ### The start of an exchange (R165) -/

/-- Without link or budget the start fails, the link looked at first (R165). -/
theorem startExchange_fails (c : Frame) {s : State} (h : s.linkUp = false ∨ s.aTimeout = 0) :
    startExchange c s =
      { s with phase := .idle, idx := 0, done := true, rClass := .error
               rCode := Config.errorCode, rArg := if s.linkUp = false then 3 else 1
               rHasvalue := false } := by
  rcases startExchange_cases c s with ⟨hl, he⟩ | ⟨hl, -, he⟩ | ⟨hl, ht, -⟩
  · rw [he, if_pos hl]
    rfl
  · rw [he, if_neg (by simp [hl])]
    rfl
  · exact absurd h (not_or.mpr ⟨by simp [hl], ht⟩)

theorem startExchange_starts (c : Frame) {s : State} (hl : s.linkUp = true)
    (ht : s.aTimeout ≠ 0) :
    startExchange c s =
      { s with txbuf := c, lLimit := s.aTimeout, timer := 0, phase := .tx, idx := 0 } := by
  rw [startExchange, if_neg (by simp [hl]), if_neg ht]
  rfl

theorem executeOp_starts {s : State} (hl : s.linkUp = true) (ht : s.aTimeout ≠ 0) :
    executeOp s =
      { s with lOp := 4, lLimit := s.aTimeout, txbuf := s.aFrame, timer := 0, phase := .tx, idx := 0
               done := false } :=
  startExchange_starts s.aFrame (s := latchLimit 4 s) hl ht

/-- Settles O16: the meaning of EXECUTE with the guards and ends of R165 written out. -/
theorem executeStartsOrFailsAtOnce : Obligations.ExecuteStartsOrFailsAtOnce := fun low _ hp =>
  exec_execute low hp

theorem validate_eq_none {k : Kind} {s : State} (h : argumentsLegal k s) :
    validate k s.aValue = none := by
  obtain ⟨velocity, resolution, -⟩ := h
  cases k with
  | ror => exact if_pos (velocity (.inl rfl))
  | rol => exact if_pos (velocity (.inr rfl))
  | smres => exact if_pos (resolution rfl)
  | _ => rfl

/-- A movement type up to 2 has its adjustment (R203). -/
theorem moveAdjust_ok (t : TemplateTable) {mvt : Byte} (coord : Byte) (h : mvt.toNat ≤ 2) :
    ∃ a, moveAdjust t mvt coord = .ok a := by
  have hmvt : mvt.toNat = 0 ∨ mvt.toNat = 1 ∨ mvt.toNat = 2 := by omega
  rcases hmvt with h | h | h <;> exact ⟨_, by rw [moveAdjust, h]; rfl⟩

/-- BUILD fails for a move alone, by its type (R202, R203). -/
theorem buildFrame_isOk {k : Kind} {s : State} (h : argumentsLegal k s) :
    ∃ f, buildFrame s.tpl s.devaddr k s.aMvt s.aCoord s.aValue = .ok f := by
  cases k with
  | mvp =>
    obtain ⟨-, -, movement⟩ := h
    obtain ⟨a, ha⟩ := moveAdjust_ok s.tpl s.aCoord (movement rfl)
    exact ⟨encodeFrame s.devaddr s.tpl.mvp.cmd a.1 a.2 s.aValue, by simp only [buildFrame, ha]; rfl⟩
  | _ => exact ⟨_, rfl⟩

/-- SEND past its local checks starts an exchange (R210). -/
theorem sendOp_startsExchange {k : Kind} {s : State} (hc : s.cfg = true)
    (ha : argumentsLegal k s) :
    ∃ f, sendOp k.code s = startExchange f (latchSend k.code s) := by
  obtain ⟨f, hf⟩ := buildFrame_isOk ha
  refine ⟨f, ?_⟩
  simp only [sendOp, Kind.ofCode_code, hc, validate_eq_none ha, hf]
  rfl

/-- Settles O17: both operations end at the guards of R165. -/
theorem noExchangeWithoutLinkOrBudget : Obligations.NoExchangeWithoutLinkOrBudget := by
  rintro i op kind s hp h (⟨⟨low, rfl⟩, rfl, rfl⟩ | ⟨k, rfl, rfl, rfl, hc, ha⟩)
  · exact (exec_execute low hp).trans
      (congrArg _ (startExchange_fails s.aFrame (s := latchLimit 4 s) h))
  · obtain ⟨f, hf⟩ := sendOp_startsExchange hc ha
    rw [exec_sendInstr, whenIdle_idle hp, hf]
    exact congrArg _ (startExchange_fails f (s := latchSend k.code s) h)

/-- Outside TX the link takes no byte (R166, R178). -/
theorem txSteps_other (n : Nat) {s : State} (hp : s.phase ≠ .tx) : txSteps n s = s := by
  induction n with
  | zero => rfl
  | succ n ih => rw [txSteps, txStep_other hp, ih]

theorem writeFrame_idle (f : Frame) {s : State} (hp : s.phase = .idle) :
    writeFrame f s = .next (txSteps 9 (executeOp { s with aFrame := f })) :=
  whenIdle_idle hp _

/-- Settles O30: EXECUTE of the frame fails at the guards of R165, and nothing is transmitted. -/
theorem commandFrameNeedsLinkAndBudget : Obligations.CommandFrameNeedsLinkAndBudget := by
  intro i f s hi hf hp h
  have fails := startExchange_fails f (s := latchLimit 4 { s with aFrame := f }) h
  rw [exec_of_port_cmd hi hf, writeFrame_idle f hp, executeOp, fails,
    txSteps_other 9 (nofun : Phase.idle ≠ .tx)]
  rfl

/-! ### The transmit steps of a frame (R166, R167) -/

/-- From IDX on, the link takes the rest of the frame and the read phase begins (R166, R167). -/
theorem txSteps_rest (n : Nat) {s : State} (hp : s.phase = .tx) (hi : s.idx.toNat + n = 8) :
    txSteps (n + 1) s =
      { s with txs := s.txs ++ s.txbuf.toList.drop s.idx.toNat, phase := .rx, idx := 0 } := by
  induction n generalizing s with
  | zero =>
    have h8 : s.idx = 8 := BitVec.eq_of_toNat_eq hi
    rw [txSteps, txStep_last hp h8, h8]
    rfl
  | succ n ih =>
    obtain ⟨b, hb⟩ := s.txbuf.byteAt_some s.idx.toNat (by omega)
    have hne : s.idx ≠ 8 := fun h => by simp [h] at hi
    have hnext : (s.idx + 1).toNat = s.idx.toNat + 1 := (toNat_idx_succ (by omega) hne).2
    have hdrop : s.txbuf.toList.drop s.idx.toNat = b :: s.txbuf.toList.drop (s.idx.toNat + 1) :=
      List.drop_eq_getElem?_toList_append .. |>.trans (by rw [Frame.toList_getElem, hb]; rfl)
    rw [txSteps, txStep_more hp hne hb, ih rfl (by show (s.idx + 1).toNat + n = 8; omega)]
    simp only [hnext, hdrop, List.append_assoc, List.singleton_append]

theorem txSteps_frame {s : State} (hp : s.phase = .tx) (hi : s.idx = 0) :
    txSteps 9 s = { s with txs := s.txs ++ s.txbuf.toList, phase := .rx, idx := 0 } := by
  rw [txSteps_rest 8 hp (by simp [hi]), hi]
  rfl

/-- The writing half of an exchange that starts (R161). -/
theorem writeFrame_starts (f : Frame) {s : State} (hp : s.phase = .idle) (hl : s.linkUp = true)
    (ht : s.aTimeout ≠ 0) :
    writeFrame f s =
      .next { s with
        aFrame := f, lOp := 4, lLimit := s.aTimeout, txbuf := f, timer := 0, done := false
        txs := s.txs ++ f.toList, phase := .rx, idx := 0 } := by
  have starts := executeOp_starts (s := { s with aFrame := f }) hl ht
  rw [writeFrame_idle f hp, starts, txSteps_frame rfl rfl]

/-- Settles O29: EXECUTE of the frame starts, and the nine bytes are transmitted. -/
theorem commandFrameIsWrittenWhole : Obligations.CommandFrameIsWrittenWhole :=
  fun _ f s hi hf hp hl ht => (exec_of_port_cmd hi hf s).trans (writeFrame_starts f hp hl ht)

/-! ### One byte (R166, R168, R172, R173) -/

theorem idx_ne_eight {i : BitVec 4} (h : i.toNat < 8) : i ≠ 8 := by
  rintro rfl
  exact absurd h (by decide)

/-- An event that moves a byte, at an offset of the frame (R27, R162). -/
theorem step_moving {s : State} {i : Input} {rest : List Input} {f : State → State}
    (hi : s.inputs = i :: rest) (hf : ∀ u, runInput i u = moving f u)
    (hp : s.pend = none ∨ s.phase ≠ .idle) (h8 : s.idx.toNat ≤ 8) :
    step s = .next (f { s with inputs := rest }) := by
  rw [step_input hp hi, hf, moving_ok]
  exact h8

/-- The transmit step with the byte at IDX; the ninth moves to RX (R166, R167). -/
theorem txStep_byte {s : State} {b : Byte} (hp : s.phase = .tx)
    (hb : s.txbuf.byteAt s.idx.toNat = some b) :
    txStep s =
      { s with
        txs := s.txs ++ [b], phase := if s.idx = 8 then .rx else .tx
        idx := if s.idx = 8 then 0 else s.idx + 1 } := by
  by_cases hi : s.idx = 8
  · have hb8 : s.txbuf.b8 = b := by simpa [hi, Frame.byteAt] using hb
    rw [if_pos hi, if_pos hi, txStep_last hp hi, hb8]
  · rw [if_neg hi, if_neg hi, txStep_more hp hi hb]

/-- A byte that arrives in RX below offset 8 (R168). -/
theorem rxByte_more {s : State} (b : Byte) (hp : s.phase = .rx) (hi : s.idx ≠ 8) :
    rxByte b s =
      { s with
        rxs := s.rxs ++ [b], rxq := (s.rxq ++ [b]).tail
        rxbuf := s.rxbuf.setByte s.idx.toNat (s.rxq.headD b), phase := .rx, idx := s.idx + 1 } := by
  rw [rxByte_rx b hp, storeRx_more]
  exact hi

/-- A byte that arrives in RX at offset 8 (R172). -/
theorem rxByte_last {s : State} (b : Byte) (hp : s.phase = .rx) (hi : s.idx = 8) :
    rxByte b s =
      complete { s with
        rxs := s.rxs ++ [b], rxq := (s.rxq ++ [b]).tail
        rxbuf := s.rxbuf.setByte 8 (s.rxq.headD b), phase := .idle, idx := 0 } := by
  rw [rxByte_rx b hp, storeRx_last]
  exact hi

theorem rxTake_cons {s : State} {h : Byte} {q : List Byte} (hp : s.phase = .rx)
    (hq : s.rxq = h :: q) : rxTake s = storeRx h { s with rxq := q } := by
  simp only [rxTake, hp, hq]

theorem rxTake_other {s : State} (h : s.phase ≠ .rx ∨ s.rxq = []) : rxTake s = s := by
  unfold rxTake
  split
  next hp hq => simp [hp, hq] at h
  next => rfl

theorem complete_execute {s : State} (h : s.lOp = 4) :
    complete s = endOp .none { s with rFrame := s.rxbuf } :=
  if_neg (by simp [h])

/-- Settles O18: the transmit step of the byte at IDX. -/
theorem transmitStepPutsOneByte : Obligations.TransmitStepPutsOneByte := by
  intro s rest b hp hi hb
  have busy : s.phase ≠ .idle := by simp [hp]
  have h8 : s.idx.toNat ≤ 8 := not_lt.mp fun h => by simp [Frame.byteAt_none _ _ h] at hb
  rw [step_moving hi (fun _ => rfl) (.inr busy) h8, txStep_byte]
  · exact hp
  · exact hb

/-- Settles O19: the receive step stores the byte at hand, which is RXQ's head if it has one. -/
theorem receiveStepStoresOneByte : Obligations.ReceiveStepStoresOneByte := by
  intro s rest hp hlt
  have busy : s.phase ≠ .idle := by simp [hp]
  refine ⟨fun b hi => ?arrives, fun h q hq hi => ?taken⟩ <;>
    rw [hp, step_moving hi (fun _ => rfl) (.inr busy) hlt.le]
  case arrives =>
    rw [rxByte_more]
    · exact hp
    · exact idx_ne_eight hlt
  case taken =>
    rw [rxTake_cons, storeRx_more]
    · exact idx_ne_eight hlt
    · exact hp
    · exact hq

/-- Settles O20: the byte at hand is stored at offset 8, and EXECUTE ends with the nine bytes. -/
theorem ninthByteCompletesExecute : Obligations.NinthByteCompletesExecute := by
  intro s rest f rxs rxq hp h8 hop h
  have busy : s.phase ≠ .idle := by simp [hp]
  have hle : s.idx.toNat ≤ 8 := by simp [h8]
  rcases h with ⟨b, hi, rfl, rfl, rfl⟩ | ⟨b, hi, hq, rfl, rfl⟩ <;>
    rw [step_moving hi (fun _ => rfl) (.inr busy) hle]
  · rw [rxByte_last, complete_execute, endOp_none]
    · exact hop
    · exact hp
    · exact h8
  · rw [rxTake_cons, storeRx_last, complete_execute, endOp_none]
    · exact hop
    · exact h8
    · exact hp
    · exact hq

/-- Settles O24: each of the four events outside its phase. -/
theorem linkEventsOutsideTheirPhase : Obligations.LinkEventsOutsideTheirPhase := by
  refine fun s rest hpend h8 => ⟨fun b hp hi => ?stale, fun hp hi => ?tx, fun h hi => ?rx,
    fun hi => step_input hpend hi⟩ <;>
    rw [step_moving hi (fun _ => rfl) hpend h8]
  case stale => exact congrArg _ (rxByte_other b (s := { s with inputs := rest }) hp)
  case tx =>
    rw [txStep_other]
    exact hp
  case rx =>
    rw [rxTake_other]
    exact h

/-! ### The failure of an exchange (R169 to R171) -/

theorem keepBytes_byteAt {n k : Nat} (kept free : Frame) (h : k < n) :
    (keepBytes n kept free).byteAt k = kept.byteAt k := by
  by_cases h8 : k ≤ 8
  · interval_cases k <;> exact congrArg some (if_pos h)
  · rw [Frame.byteAt_none _ k (by omega), Frame.byteAt_none _ k (by omega)]

/-- The response bytes read stay in RXBUF (R26, R170). -/
theorem abort_keepsBytesRead (c : Cause) (s : State) :
    ∃ rx fresh, (∀ k, s.phase = .rx → k < s.idx.toNat → rx.byteAt k = s.rxbuf.byteAt k) ∧
      abort c s =
        { s with
          rxbuf := rx, fresh := fresh, phase := .idle, idx := 0, done := true, rClass := .error
          rCode := Config.errorCode, rArg := causeId c, rHasvalue := false } := by
  refine ⟨_, _, fun k hp hk => keepBytes_byteAt _ _ ?_, abort_eq c s⟩
  simpa only [State.bytesRead, hp] using hk

/-- The tick that uses the budget up (R170). -/
theorem tick_expires {s : State} (hp : s.phase ≠ .idle)
    (h : s.lLimit.toNat ≤ s.timer.toNat + 1) :
    tick s = abort .timeout { s with timer := s.timer + 1 } := by
  rcases tick_cases s hp with ⟨hlt, -⟩ | ⟨-, he⟩
  · omega
  · exact he

theorem tick_counts {s : State} (hp : s.phase ≠ .idle)
    (h : s.timer.toNat + 1 < s.lLimit.toNat) : tick s = { s with timer := s.timer + 1 } := by
  rcases tick_cases s hp with ⟨-, he⟩ | ⟨hle, -⟩
  · exact he
  · omega

/-- Settles O22: the tick of an idle block, of one with budget left, and of one without. -/
theorem tickCountsAndExpires : Obligations.TickCountsAndExpires := by
  intro s rest hpend hi
  have tick_step : step s = .next (tick { s with inputs := rest }) := step_input hpend hi
  refine ⟨fun hp => ?idle, fun hp hlt => ?counts, fun hp hle => ?expires⟩
  case idle => exact tick_step.trans (congrArg _ (tick_idle hp))
  case counts => exact tick_step.trans (congrArg _ (tick_counts hp hlt))
  case expires =>
    obtain ⟨rx, fresh, hrx, he⟩ :=
      abort_keepsBytesRead .timeout { s with inputs := rest, timer := s.timer + 1 }
    refine ⟨rx, fresh, hrx, ?_⟩
    rw [tick_step, tick_expires, he, causeId]
    · exact hp
    · exact hle

/-- Settles O23: both events are a link error, the second after `link_up` has fallen. -/
theorem linkErrorEndsTheExchange : Obligations.LinkErrorEndsTheExchange := by
  intro s rest i hpend hi hc
  obtain ⟨up, hup, error_step⟩ : ∃ up, (if i = .linkClose then false else s.linkUp) = up ∧
      step s = .next (linkError { s with inputs := rest, linkUp := up }) := by
    rcases hc with rfl | rfl <;> exact ⟨_, rfl, step_input hpend hi⟩
  rw [hup, error_step]
  refine ⟨fun hp => congrArg _ (linkError_idle hp), fun hp => ?_⟩
  obtain ⟨rx, fresh, hrx, he⟩ :=
    abort_keepsBytesRead .linkError { s with inputs := rest, linkUp := up }
  refine ⟨rx, fresh, hrx, ?_⟩
  rw [linkError_busy, he, causeId]
  exact hp

/-! ### The bytes of a response (R168, R172) -/

/-- The head of RXQ comes before the byte that arrives, which comes after the rest of RXQ (R168). -/
theorem rxq_append_cons (q bs : List Byte) (b : Byte) :
    q ++ b :: bs = q.headD b :: ((q ++ [b]).tail ++ bs) := by
  cases q <;> simp

/-- From IDX on, the bytes of RXQ and those that arrive fill RXBUF in order, and the ninth completes
the exchange (R168, R172). -/
theorem rxBytes_complete (b : Byte) (bs : List Byte) {s : State} {g : Frame} (hp : s.phase = .rx)
    (hi : s.idx.toNat + bs.length = 8)
    (hg : g.toList =
      s.rxbuf.toList.take s.idx.toNat ++ (s.rxq ++ b :: bs).take (bs.length + 1)) :
    rxBytes (b :: bs) s =
      complete { s with
        rxs := s.rxs ++ b :: bs, rxq := (s.rxq ++ b :: bs).drop (bs.length + 1), rxbuf := g
        phase := .idle, idx := 0 } := by
  induction bs generalizing b s with
  | nil =>
    have h8 : s.idx = 8 := BitVec.eq_of_toNat_eq hi
    have stored : s.rxbuf.setByte 8 (s.rxq.headD b) = g := Frame.toList_injective <| by
      rw [hg, h8, rxq_append_cons, Frame.toList_setByte _ (le_refl 8)]
      rfl
    rw [rxBytes, rxBytes, rxByte_last b hp h8, stored, ← List.drop_one]
    rfl
  | cons c cs ih =>
    have hlt : s.idx.toNat < 8 := by rw [List.length_cons] at hi; omega
    have hne : s.idx ≠ 8 := idx_ne_eight hlt
    have next : (s.idx + 1).toNat = s.idx.toNat + 1 := (toNat_idx_succ hlt.le hne).2
    rw [rxBytes, rxByte_more b hp hne, ih]
    · simp [rxq_append_cons _ (c :: cs) b]
    · rfl
    · rw [next, ← hi, List.length_cons]
      omega
    · rw [hg, rxq_append_cons, next, Frame.take_setByte _ hlt.le, List.append_assoc]
      rfl

/-- From the first offset the nine bytes come from RXQ and then from the frame (R161, R168). -/
theorem rxBytes_frame (f : Frame) {s : State} {g : Frame} (hp : s.phase = .rx) (hi : s.idx = 0)
    (hg : g.toList = (s.rxq ++ f.toList).take 9) :
    rxBytes f.toList s =
      complete { s with
        rxs := s.rxs ++ f.toList, rxq := (s.rxq ++ f.toList).drop 9, rxbuf := g
        phase := .idle, idx := 0 } :=
  rxBytes_complete f.b0 _ hp (hi ▸ rfl) (hi ▸ hg)

theorem readFrame_ok (f : Frame) {s : State} (hi : s.idx.toNat ≤ 8) :
    readFrame f s = .next (rxBytes f.toList s) :=
  moving_ok hi (rxBytes f.toList)

/-- Settles O31: the nine bytes complete EXECUTE as they are. -/
theorem responseFrameCompletesExecute : Obligations.ResponseFrameCompletesExecute := by
  intro i f g s hi hf hp hidx hop hg
  rw [exec_of_port_rsp hi hf, readFrame_ok f (by simp [hidx]), rxBytes_frame f hp hidx hg,
    complete_execute, endOp_none]
  exact hop

end Sys2Proof.Machine

namespace Sys2Proof.Safety

open Sys2Proof.Machine

/-! ### Starts, frames and edges as events (R160, R162, R180) -/

/-- A blind change leaves the operation code as it was: writing it back commutes. -/
theorem OperandBlind.aOp {f : State → State} (hf : OperandBlind f) (s : State) :
    (f s).aOp = s.aOp := by
  have h : f s = hostWrite (.op s.aOp) (f s) := hf (.op s.aOp) s
  rw [h]
  rfl

theorem OperandBlind.aKind {f : State → State} (hf : OperandBlind f) (s : State) :
    (f s).aKind = s.aKind := by
  have h : f s = hostWrite (.kind s.aKind) (f s) := hf (.kind s.aKind) s
  rw [h]
  rfl

/-- Settles O41: the instruction an event decodes to, run in the state the event leaves. -/
theorem stepRunsTheDecodedInstruction : Obligations.StepRunsTheDecodedInstruction := by
  refine ⟨fun s hs hp => step_start hs hp, fun s f hs hp => ?frame, fun s f rest hp hi => ?response,
    fun s p rest hs hp hi hr hv => ?edge⟩
  case frame =>
    have written := (step_start hs hp).trans (runStart_frame f _)
    exact ⟨fun i h => written.trans (exec_of_decodeCmd h _).symm, fun _ _ => written⟩
  case response =>
    have read := (step_input hp hi).trans (runInput_rxFrame f _)
    exact ⟨fun i h => read.trans (exec_of_decodeRsp h _).symm, fun _ _ => read⟩
  case edge =>
    have blind := OperandBlind.clockEdge hr
    rw [step_input (.inl hs) hi, runInput, runEdge_idle hr, if_pos hv, runStart, blind.aOp,
      blind.aKind]
    · rfl
    · exact hp

/-! ### The port events of an edge (R174) -/

/-- The link ports at an edge, the first in its order (R171, R174). -/
def linkPorts (p : Pins) (s : State) : State :=
  whenPort p.linkErr linkError (if p.linkUp then linkOpen s else linkClose s)

/-- The transmitted byte and the tick, the last in the order of an edge (R174). -/
def txThenTick (p : Pins) (s : State) : State :=
  whenPort p.tickMs tick (whenPort p.txReady txStep s)

/-- An edge without reset: link, received byte, transmitted byte, tick (R174). -/
theorem clockEdge_order {p : Pins} (hr : p.rst = false) (s : State) :
    clockEdge p s =
      whenPort (!p.opValid) withdraw (txThenTick p (rxPort p.rxData (linkPorts p s))) := by
  rw [clockEdge, hr]
  rfl

theorem clockEdge_rst {p : Pins} (hr : p.rst = true) (s : State) :
    clockEdge p s = whenPort (!p.opValid) withdraw (resetBlock s) := by
  rw [clockEdge, hr]
  rfl

/-! ### What waits at the ports -/

/-- The block with other things waiting at its ports. -/
def withPorts (p : Option Start) (r : List Input) (s : State) : State :=
  { s with pend := p, inputs := r }

@[simp] theorem withPorts_phase (p : Option Start) (r : List Input) (s : State) :
    (withPorts p r s).phase = s.phase := rfl
@[simp] theorem withPorts_idx (p : Option Start) (r : List Input) (s : State) :
    (withPorts p r s).idx = s.idx := rfl
@[simp] theorem withPorts_txbuf (p : Option Start) (r : List Input) (s : State) :
    (withPorts p r s).txbuf = s.txbuf := rfl
@[simp] theorem withPorts_rxq (p : Option Start) (r : List Input) (s : State) :
    (withPorts p r s).rxq = s.rxq := rfl
@[simp] theorem withPorts_timer (p : Option Start) (r : List Input) (s : State) :
    (withPorts p r s).timer = s.timer := rfl
@[simp] theorem withPorts_lLimit (p : Option Start) (r : List Input) (s : State) :
    (withPorts p r s).lLimit = s.lLimit := rfl

/-- A change of the block that neither reads nor writes what waits at its ports. -/
def PortBlind (f : State → State) : Prop :=
  ∀ (p : Option Start) (r : List Input) (s : State), f (withPorts p r s) = withPorts p r (f s)

namespace PortBlind

theorem pend {f : State → State} (hf : PortBlind f) (s : State) : (f s).pend = s.pend := by
  have h : f s = withPorts s.pend s.inputs (f s) := hf s.pend s.inputs s
  rw [h]
  rfl

theorem inputs {f : State → State} (hf : PortBlind f) (s : State) : (f s).inputs = s.inputs := by
  have h : f s = withPorts s.pend s.inputs (f s) := hf s.pend s.inputs s
  rw [h]
  rfl

/-- A blind event commutes with the arrival of other inputs. -/
theorem with_inputs {f : State → State} (hf : PortBlind f) (r : List Input) (s : State) :
    f { s with inputs := r } = { f s with inputs := r } :=
  (hf s.pend r s).trans (by rw [← hf.pend s]; rfl)

theorem comp {f g : State → State} (hf : PortBlind f) (hg : PortBlind g) :
    PortBlind fun s => f (g s) :=
  fun p r s => (congrArg f (hg p r s)).trans (hf p r (g s))

theorem endOp : (e : Ending) → PortBlind (endOp e)
  | .none | .wire _ none | .wire _ (some _) | .locl _ | .transport _ | .checksum => fun _ _ _ => rfl

theorem abort (c : Cause) : PortBlind (abort c) := fun _ _ _ => rfl

theorem complete : PortBlind complete := fun p r s => by
  unfold Machine.complete finishSend finishExecute
  rw [apply_ite (withPorts p r), apply_ite (withPorts p r), ← endOp, ← endOp, ← endOp]
  rfl

theorem storeRx (b : Byte) : PortBlind (storeRx b) := fun p r s => by
  unfold Machine.storeRx
  rw [apply_ite (withPorts p r), ← complete]
  rfl

theorem staleByte (b : Byte) : PortBlind (staleByte b) := fun p r s => by
  unfold Machine.staleByte
  split
  · rfl
  · rw [apply_ite (withPorts p r)]
    rfl

theorem rxByte (b : Byte) : PortBlind (rxByte b) := fun p r s => by
  unfold Machine.rxByte
  rw [withPorts_phase, withPorts_rxq]
  split
  · split <;>
    · rw [← storeRx]
      rfl
  · exact staleByte b p r s
  · exact staleByte b p r s

theorem rxBytes : (bs : List Byte) → PortBlind (rxBytes bs)
  | [] => fun _ _ _ => rfl
  | b :: bs => fun p r s => by
    simp only [Machine.rxBytes]
    rw [rxByte, rxBytes bs]

theorem rxTake : PortBlind rxTake := fun p r s => by
  unfold Machine.rxTake
  rw [withPorts_phase, withPorts_rxq]
  split
  · rw [← storeRx]
    rfl
  · rfl

theorem txStep : PortBlind txStep := fun p r s => by
  unfold Machine.txStep
  rw [withPorts_phase, withPorts_txbuf, withPorts_idx]
  split
  · split
    · rw [apply_ite (withPorts p r)]
      rfl
    · rfl
  · rfl
  · rfl

theorem tick : PortBlind tick := fun p r s => by
  unfold Machine.tick
  rw [withPorts_phase, withPorts_lLimit, withPorts_timer]
  split
  · rfl
  all_goals
    rw [apply_ite (withPorts p r)]
    rfl

theorem linkError : PortBlind linkError := fun p r s => by
  unfold Machine.linkError
  rw [withPorts_phase]
  split <;> rfl

theorem linkOpen : PortBlind linkOpen := fun _ _ _ => rfl

theorem linkClose : PortBlind linkClose := fun p r s => linkError p r { s with linkUp := false }

theorem hostWrite (w : HostWrite) : PortBlind (hostWrite w) := fun _ _ _ => by cases w <;> rfl

theorem resetBlock : PortBlind resetBlock := fun _ _ _ => rfl

theorem whenPort {f : State → State} (b : Bool) (hf : PortBlind f) : PortBlind (whenPort b f) := by
  cases b
  · exact fun _ _ _ => rfl
  · exact hf

theorem rxPort : (d : Option Byte) → PortBlind (rxPort d)
  | none => fun _ _ _ => rfl
  | some b => rxByte b

theorem linkPorts (p : Pins) : PortBlind (linkPorts p) := by
  have up : PortBlind fun s => if p.linkUp then Machine.linkOpen s else Machine.linkClose s := by
    cases p.linkUp
    · exact linkClose
    · exact linkOpen
  have error := comp (whenPort p.linkErr linkError) up
  exact error

/-- At an edge only the fall of `op_valid` is a change at the ports (R174, R180). -/
theorem clockEdge {p : Pins} (hv : p.opValid = true) : PortBlind (clockEdge p) := fun q r s => by
  by_cases hr : p.rst = true
  · rw [clockEdge_rst hr, clockEdge_rst hr, hv]
    rfl
  · have events := comp (whenPort p.tickMs tick) <| comp (whenPort p.txReady txStep) <|
      comp (rxPort p.rxData) (linkPorts p)
    rw [clockEdge_order (by simpa using hr), clockEdge_order (by simpa using hr), hv]
    exact events q r s

end PortBlind

/-- The fall of `op_valid` is the last event of an edge (log 28). -/
theorem clockEdge_withdraw (p : Pins) (s : State) :
    clockEdge p s = whenPort (!p.opValid) withdraw (clockEdge { p with opValid := true } s) := rfl

/-- An edge in an exchange that answers a next state has run its port events (R160, R180). -/
theorem runEdge_next {p : Pins} {s t : State} (h : runEdge p s = .next t)
    (busy : s.phase ≠ .idle) : t = clockEdge p s := by
  by_cases hr : p.rst = true
  · exact (Host.Outcome.next.inj ((runEdge_rst hr).symm.trans h)).symm
  · exact moving_next ((runEdge_noStart (by simpa using hr) (.inl busy)).symm.trans h)

/-- In an exchange no event takes a waiting input away, and the host alone changes what it presents
(R160, R162, log 28). -/
theorem runInput_keepsPorts {i : Input} {s t : State} (h : runInput i s = .next t)
    (busy : s.phase ≠ .idle) :
    t.inputs = s.inputs ∧ (changesPresentation i = false → t.pend = s.pend) := by
  have blind {f : State → State} (hf : PortBlind f) :
      (f s).inputs = s.inputs ∧ (changesPresentation i = false → (f s).pend = s.pend) :=
    ⟨hf.inputs s, fun _ => hf.pend s⟩
  cases i with
  | present st => exact Host.Outcome.next.inj h ▸ ⟨rfl, nofun⟩
  | withdraw => exact Host.Outcome.next.inj h ▸ ⟨rfl, nofun⟩
  | write w => exact Host.Outcome.next.inj h ▸ blind (.hostWrite w)
  | linkTakes => exact moving_next h ▸ blind .txStep
  | rxByte b => exact moving_next h ▸ blind (.rxByte b)
  | rxTake => exact moving_next h ▸ blind .rxTake
  | rxFrame f => exact moving_next ((runInput_rxFrame f s).symm.trans h) ▸ blind (.rxBytes _)
  | tick => exact Host.Outcome.next.inj h ▸ blind .tick
  | linkErr => exact Host.Outcome.next.inj h ▸ blind .linkError
  | linkOpen => exact Host.Outcome.next.inj h ▸ blind .linkOpen
  | linkClose => exact Host.Outcome.next.inj h ▸ blind .linkClose
  | rst => exact Host.Outcome.next.inj h ▸ blind .resetBlock
  | edge p =>
    rw [runEdge_next h busy, clockEdge_withdraw]
    have events := blind (.clockEdge (p := { p with opValid := true }) rfl)
    cases hv : p.opValid with
    | false => exact ⟨events.1, fun hc => by simp [changesPresentation, hv] at hc⟩
    | true => exact events

/-- A clock edge in an exchange: its port events, and no operation is accepted (R160, R180). -/
theorem step_edge_busy {p : Pins} {rest : List Input} {s : State} (busy : s.phase ≠ .idle)
    (h8 : s.idx.toNat ≤ 8) (hi : s.inputs = .edge p :: rest) :
    step s = .next (clockEdge p { s with inputs := rest }) := by
  rw [step_input (.inr busy) hi, runInput]
  by_cases hr : p.rst = true
  · exact runEdge_rst hr
  · exact runEdge_busy (by simpa using hr) busy h8

/-- Settles O26: every start finds the block busy, and no other event takes one up. -/
theorem noStartIsAcceptedWhileBusy : Obligations.NoStartIsAcceptedWhileBusy := by
  refine ⟨fun i s hport busy => ?refused, fun st i rest s busy hs hi => ?pending,
    fun p rest s busy h8 hi => step_edge_busy busy h8 hi⟩
  case refused =>
    cases hp : i.port with
    | op =>
      obtain ⟨op, kind, hexec⟩ := exec_of_port_op hp
      rw [hexec, whenIdle_busy busy]
    | cmd =>
      obtain ⟨f, hf, -⟩ := decodeCmd_of_port hp
      rw [exec_of_port_cmd hp hf, writeFrame, whenIdle_busy busy]
    | rsp => exact absurd hp hport
  case pending =>
    have handled := step_input (.inr busy) hi
    exact ⟨handled, fun t ht hc =>
      ((runInput_keepsPorts (handled.symm.trans ht) busy).2 hc).trans hs⟩

/-! ### Runs over waiting inputs (R162) -/

theorem run_succ {M : Host.Core} {s t : M.State} (n : Nat) (h : M.step s = .next t) :
    M.run (n + 1) s = M.run n t := by
  rw [Host.Core.run, h]

theorem run_add {M : Host.Core} {m : Nat} (n : Nat) {s t : M.State} (h : M.run m s = .next t) :
    M.run (m + n) s = M.run n t := by
  induction m generalizing s with
  | zero =>
    cases h
    rw [Nat.zero_add]
  | succ m ih =>
    rw [Nat.succ_add, Host.Core.run]
    rw [Host.Core.run] at h
    cases hs : M.step s <;> rw [hs] at h
    · exact ih h
    · cases h
    · cases h

/-- A run handles a waiting event that moves a byte, and goes on with the next input. -/
theorem run_moving {s : State} {i : Input} {rest : List Input} {f : State → State} (n : Nat)
    (hf : ∀ u, runInput i u = moving f u) (blind : PortBlind f)
    (hp : s.pend = none ∨ s.phase ≠ .idle) (h8 : s.idx.toNat ≤ 8) :
    core.run (n + 1) { s with inputs := i :: rest } =
      core.run n { f s with inputs := rest } := by
  have hstep : step { s with inputs := i :: rest } = .next (f { s with inputs := rest }) :=
    step_moving (s := { s with inputs := i :: rest }) rfl hf hp h8
  rw [blind.with_inputs] at hstep
  exact run_succ (M := core) n hstep

theorem txStep_busy {s : State} (busy : s.phase ≠ .idle) : (txStep s).phase ≠ .idle := by
  rcases txStep_cases s with ⟨-, -, he⟩ | ⟨b, -, -, -, he⟩ | ⟨-, he⟩ <;> rw [he]
  · nofun
  · nofun
  · exact busy

theorem txStep_idx_le {s : State} (h8 : s.idx.toNat ≤ 8) : (txStep s).idx.toNat ≤ 8 := by
  rcases txStep_cases s with ⟨-, -, he⟩ | ⟨b, -, hne, -, he⟩ | ⟨-, he⟩ <;> rw [he]
  · exact Nat.zero_le 8
  · obtain ⟨hlt, hnext⟩ := toNat_idx_succ h8 hne
    exact hnext.trans_le hlt
  · exact h8

/-- In an exchange the link takes byte after byte (R166, R167). -/
theorem run_txSteps (n : Nat) (rest : List Input) {s : State} (busy : s.phase ≠ .idle)
    (h8 : s.idx.toNat ≤ 8) :
    core.run n { s with inputs := List.replicate n .linkTakes ++ rest } =
      .next { txSteps n s with inputs := rest } := by
  induction n generalizing s with
  | zero => rfl
  | succ n ih =>
    exact (run_moving n (fun _ => rfl) .txStep (.inr busy) h8).trans
      (ih (txStep_busy busy) (txStep_idx_le h8))

@[simp] theorem complete_phase (s : State) : (complete s).phase = .idle := by
  rcases complete_cases s with ⟨-, -, he⟩ | ⟨-, -, he⟩ | ⟨-, he⟩ <;> rw [he, endOp_phase]

@[simp] theorem complete_idx (s : State) : (complete s).idx = 0 := by
  rcases complete_cases s with ⟨-, -, he⟩ | ⟨-, -, he⟩ | ⟨-, he⟩ <;> rw [he, endOp_idx]

@[simp] theorem complete_done (s : State) : (complete s).done = true := by
  rcases complete_cases s with ⟨-, -, he⟩ | ⟨-, -, he⟩ | ⟨-, he⟩ <;> rw [he, endOp_done]

/-- A stale byte reaches RXS and RXQ only (R173). -/
theorem rxByte_stale (b : Byte) {s : State} (hp : s.phase ≠ .rx) :
    ∃ rs q, rxByte b s = { s with rxs := rs, rxq := q } := by
  rw [rxByte_other b hp]
  rcases staleByte_cases b s with ⟨he, -⟩ | ⟨he, -⟩ | ⟨he, -⟩ <;> exact ⟨_, _, he⟩

theorem rxByte_idx_le (b : Byte) {s : State} (h8 : s.idx.toNat ≤ 8) :
    (rxByte b s).idx.toNat ≤ 8 := by
  by_cases hp : s.phase = .rx
  · by_cases hi : s.idx = 8
    · rw [rxByte_last b hp hi, complete_idx]
      exact Nat.zero_le 8
    · obtain ⟨hlt, hnext⟩ := toNat_idx_succ h8 hi
      rw [rxByte_more b hp hi]
      exact hnext.trans_le hlt
  · obtain ⟨rs, q, he⟩ := rxByte_stale b hp
    rwa [he]

/-- With nothing presented byte after byte arrives, in every phase (R168, R173). -/
theorem run_rxBytes (bs : List Byte) (rest : List Input) {s : State} (hp : s.pend = none)
    (h8 : s.idx.toNat ≤ 8) :
    core.run bs.length { s with inputs := bs.map .rxByte ++ rest } =
      .next { rxBytes bs s with inputs := rest } := by
  induction bs generalizing s with
  | nil => rfl
  | cons b bs ih =>
    exact (run_moving bs.length (fun _ => rfl) (.rxByte b) (.inl hp) h8).trans
      (ih ((PortBlind.rxByte b).pend s |>.trans hp) (rxByte_idx_le b h8))

/-- Settles O33: a response frame reads its nine bytes one after the other. -/
theorem responseFrameIsNineArrivals : Obligations.ResponseFrameIsNineArrivals := by
  intro i f s rest hi hf hp h8
  exact ⟨_, (exec_of_port_rsp hi hf s).trans (readFrame_ok f h8), run_rxBytes f.toList rest hp h8⟩

/-- Settles O35: a command frame is EXECUTE of it with the nine transmit steps. -/
theorem nineTransmitStepsWriteTheFrame : Obligations.NineTransmitStepsWriteTheFrame := by
  intro i f low s rest hi hf hp hl ht
  have starts := executeOp_starts (s := { s with aFrame := f }) hl ht
  refine ⟨_, _, exec_execute low hp, (exec_of_port_cmd hi hf s).trans (writeFrame_idle f hp),
    run_txSteps 9 rest ?_ ?_⟩ <;> rw [starts]
  · nofun
  · exact Nat.zero_le 8

/-- With RXQ empty the nine bytes are the frame's own. -/
theorem rxBytes_frame_noQueue (f : Frame) {s : State} (hp : s.phase = .rx) (hi : s.idx = 0)
    (hq : s.rxq = []) :
    rxBytes f.toList s =
      complete { s with rxs := s.rxs ++ f.toList, rxbuf := f, phase := .idle, idx := 0 } := by
  rw [rxBytes_frame f hp hi (g := f) (by rw [hq]; rfl), hq]
  rfl

/-- With RXQ empty and nothing presented a whole exchange is nine bytes out and nine back
(R161, R178). -/
theorem run_exchange (b : Frame) (rest : List Input) {s : State} (hp : s.phase = .tx)
    (hi : s.idx = 0) (hs : s.pend = none) (hq : s.rxq = []) :
    core.run 18 { s with
      inputs := List.replicate 9 .linkTakes ++ b.toList.map .rxByte ++ rest } =
    .next { complete { s with
      txs := s.txs ++ s.txbuf.toList, rxs := s.rxs ++ b.toList, rxbuf := b
      phase := .idle, idx := 0 } with inputs := rest } := by
  have sent := txSteps_frame hp hi
  have run_out := run_txSteps 9 (b.toList.map .rxByte ++ rest) (s := s) (by simp [hp])
    (by simp [hi])
  have run_back := run_rxBytes b.toList rest (s := txSteps 9 s) (by rw [sent]; exact hs)
    (by rw [sent]; exact Nat.zero_le 8)
  have received := rxBytes_frame_noQueue b (s := txSteps 9 s) (by rw [sent]) (by rw [sent])
    (by rw [sent]; exact hq)
  rw [List.append_assoc, run_add (M := core) 9 run_out]
  exact run_back.trans (by rw [received, sent])

/-- Settles O36: the exchange of EXECUTE runs, and its ninth byte ends it with the nine bytes. -/
theorem byteStepsRefineExecute : Obligations.ByteStepsRefineExecute := by
  intro low b s rest hp hl ht hq
  refine ⟨_, exec_execute low hp, ?_⟩
  rw [executeOp_starts hl ht]
  refine (run_exchange b rest (s := { s with
    pend := none, lOp := 4, lLimit := s.aTimeout, txbuf := s.aFrame, timer := 0, phase := .tx
    idx := 0, done := false }) rfl rfl rfl hq).trans ?_
  rw [complete_execute rfl, endOp_none]

/-! ### What an event does to an exchange in flight (R175) -/

/-- The exchange of `s` is in flight in `t` too, `n` ticks later. -/
structure Underway (n : Nat) (s t : State) : Prop where
  busy : t.phase ≠ .idle
  limit : t.lLimit = s.lLimit
  timer : t.timer.toNat = s.timer.toNat + n

/-- An event takes `s` to `t`: it ends the exchange, or the exchange goes on, `n` ticks later. -/
def Progress (ends : Bool) (n : Nat) (s t : State) : Prop :=
  (ends = true ∧ t.phase = .idle) ∨ (ends = false ∧ Underway n s t)

theorem Underway.progress {n : Nat} {s t : State} (h : Underway n s t) : Progress false n s t :=
  .inr ⟨rfl, h⟩

theorem Underway.expiresNext {s t : State} (h : Underway 0 s t) :
    expiresNext t = expiresNext s := by
  rw [Safety.expiresNext, Safety.expiresNext, h.limit, h.timer, Nat.add_zero]

theorem Progress.iff {ends : Bool} {n : Nat} {s t : State} (h : Progress ends n s t) :
    t.phase = .idle ↔ ends = true := by
  rcases h with ⟨he, hp⟩ | ⟨he, hu⟩
  · exact ⟨fun _ => he, fun _ => hp⟩
  · exact ⟨fun hp => absurd hp hu.busy, fun h => by simp [he] at h⟩

/-- What the next event does, seen from before an event without a tick. -/
theorem Underway.then {ends : Bool} {n : Nat} {s t u : State} (h : Underway 0 s t)
    (h' : Progress ends n t u) : Progress ends n s u :=
  h'.imp_right fun ⟨he, hu⟩ =>
    ⟨he, hu.busy, hu.limit.trans h.limit, by rw [hu.timer, h.timer, Nat.add_zero]⟩

theorem underway_txStep {s : State} (busy : s.phase ≠ .idle) : Underway 0 s (txStep s) := by
  refine ⟨txStep_busy busy, ?_, ?_⟩ <;>
    rcases txStep_cases s with ⟨-, -, he⟩ | ⟨b, -, -, -, he⟩ | ⟨-, he⟩ <;> rw [he] <;> rfl

theorem atLastByte_eq_false {s : State} (h : s.phase ≠ .rx ∨ s.idx ≠ 8) :
    atLastByte s = false := by
  rw [atLastByte, decide_eq_false_iff_not, not_and_or]
  exact h

/-- A stored byte is the ninth, or the exchange goes on, whatever is left in RXQ (R168, R172). -/
theorem progress_storeRx (b : Byte) (rs q : List Byte) {s : State} (hp : s.phase = .rx) :
    Progress (atLastByte s) 0 s (storeRx b { s with rxs := rs, rxq := q }) := by
  by_cases hi : s.idx = 8
  · rw [storeRx_last]
    · exact .inl ⟨decide_eq_true ⟨hp, hi⟩, complete_phase _⟩
    · exact hi
  · rw [storeRx_more]
    · exact .inr ⟨atLastByte_eq_false (.inr hi), nofun, rfl, rfl⟩
    · exact hi

theorem progress_rxByte (b : Byte) {s : State} (busy : s.phase ≠ .idle) :
    Progress (atLastByte s) 0 s (rxByte b s) := by
  by_cases hp : s.phase = .rx
  · rw [rxByte_rx b hp]
    exact progress_storeRx _ _ _ hp
  · obtain ⟨rs, q, he⟩ := rxByte_stale b hp
    rw [he]
    exact .inr ⟨atLastByte_eq_false (.inl hp), busy, rfl, rfl⟩

theorem progress_rxTake {s : State} (busy : s.phase ≠ .idle) :
    Progress (atLastByte s && !s.rxq.isEmpty) 0 s (rxTake s) := by
  by_cases hp : s.phase = .rx
  · cases hq : s.rxq with
    | nil =>
      rw [rxTake_other (.inr hq)]
      exact .inr ⟨Bool.and_false _, busy, rfl, rfl⟩
    | cons h q =>
      rw [rxTake_cons hp hq, List.isEmpty_cons, Bool.not_false, Bool.and_true]
      exact progress_storeRx h s.rxs q hp
  · rw [rxTake_other (.inl hp), atLastByte_eq_false (.inl hp), Bool.false_and]
    exact .inr ⟨rfl, busy, rfl, rfl⟩

theorem progress_tick {s : State} (busy : s.phase ≠ .idle) :
    Progress (expiresNext s) 1 s (tick s) := by
  rcases tick_cases s busy with ⟨hlt, he⟩ | ⟨hle, he⟩ <;> rw [he]
  · refine .inr ⟨decide_eq_false (by omega), busy, rfl, ?_⟩
    show (s.timer + 1).toNat = s.timer.toNat + 1
    bv_omega
  · exact .inl ⟨decide_eq_true hle, rfl⟩

/-- The bytes that reach an idle block leave it idle (R173). -/
theorem rxBytes_idle (bs : List Byte) {s : State} (hp : s.phase = .idle) :
    (rxBytes bs s).phase = .idle := by
  induction bs generalizing s with
  | nil => exact hp
  | cons b bs ih => exact ih (rxPort_idle (some b) hp)

/-- Enough bytes complete an exchange; those behind the ninth are stale (R172, R173). -/
theorem rxBytes_completes (bs : List Byte) {s : State} (hp : s.phase = .rx)
    (h8 : s.idx.toNat ≤ 8) (hlen : 8 < s.idx.toNat + bs.length) :
    (rxBytes bs s).phase = .idle := by
  induction bs generalizing s with
  | nil => exact absurd h8 (not_le.mpr hlen)
  | cons b bs ih =>
    by_cases hi : s.idx = 8
    · rw [rxBytes, rxByte_last b hp hi]
      exact rxBytes_idle bs (complete_phase _)
    · obtain ⟨hlt, hnext⟩ := toNat_idx_succ h8 hi
      rw [List.length_cons] at hlen
      rw [rxBytes, rxByte_more b hp hi]
      refine ih rfl (hnext.trans_le hlt) ?_
      show 8 < (s.idx + 1).toNat + bs.length
      omega

/-- Bytes outside the read phase reach RXS and RXQ only (R173). -/
theorem rxBytes_stale (bs : List Byte) {s : State} (hp : s.phase ≠ .rx) :
    ∃ rs q, rxBytes bs s = { s with rxs := rs, rxq := q } := by
  induction bs generalizing s with
  | nil => exact ⟨s.rxs, s.rxq, rfl⟩
  | cons b bs ih =>
    obtain ⟨rs, q, he⟩ := rxByte_stale b hp
    rw [rxBytes, he]
    exact ih hp

theorem progress_rxFrame (f : Frame) {s : State} (busy : s.phase ≠ .idle)
    (h8 : s.idx.toNat ≤ 8) : Progress (decide (s.phase = .rx)) 0 s (rxBytes f.toList s) := by
  by_cases hp : s.phase = .rx
  · refine .inl ⟨decide_eq_true hp, rxBytes_completes f.toList hp h8 ?_⟩
    rw [Frame.toList_length]
    omega
  · obtain ⟨rs, q, he⟩ := rxBytes_stale f.toList hp
    rw [he]
    exact .inr ⟨decide_eq_false hp, busy, rfl, rfl⟩

theorem progress_rxPort (d : Option Byte) {s : State} (busy : s.phase ≠ .idle) :
    Progress (d.isSome && atLastByte s) 0 s (rxPort d s) := by
  cases d with
  | none => exact .inr ⟨rfl, busy, rfl, rfl⟩
  | some b => exact progress_rxByte b busy

/-! ### An edge in an exchange (R174) -/

@[simp] theorem whenPort_true (f : State → State) (s : State) : whenPort true f s = f s := rfl

theorem txThenTick_idle (p : Pins) {s : State} (hp : s.phase = .idle) : txThenTick p s = s := by
  have on_port {f : State → State} (b : Bool) (hf : f s = s) : whenPort b f s = s := by
    cases b
    · rfl
    · exact hf
  rw [txThenTick, on_port _ (txStep_other (by simp [hp])), on_port _ (tick_idle hp)]

theorem underway_txPort (b : Bool) {s : State} (busy : s.phase ≠ .idle) :
    Underway 0 s (whenPort b txStep s) := by
  cases b
  · exact ⟨busy, rfl, rfl⟩
  · exact underway_txStep busy

theorem progress_txThenTick (p : Pins) {s : State} (busy : s.phase ≠ .idle) :
    Progress (p.tickMs && expiresNext s) p.tickMs.toNat s (txThenTick p s) := by
  have sent := underway_txPort p.txReady busy
  cases hm : p.tickMs with
  | false =>
    rw [txThenTick, hm]
    exact sent.progress
  | true =>
    rw [txThenTick, hm, Bool.true_and, ← sent.expiresNext]
    exact sent.then (progress_tick sent.busy)

theorem abort_phase (c : Cause) (s : State) : (abort c s).phase = .idle := rfl

/-- A link error or a fall of `link_up` at an edge ends the exchange first (R171, R174). -/
theorem linkPorts_fails {p : Pins} {s : State} (busy : s.phase ≠ .idle)
    (h : (p.linkErr || !p.linkUp) = true) :
    linkPorts p s = abort .linkError { s with linkUp := p.linkUp } := by
  rw [linkPorts]
  cases hl : p.linkUp with
  | false =>
    have close : linkClose s = abort .linkError { s with linkUp := false } := linkError_busy busy
    rw [if_neg nofun, close]
    cases p.linkErr
    · rfl
    · exact linkError_idle (abort_phase _ _)
  | true =>
    have he : p.linkErr = true := by simpa [hl] using h
    rw [he, if_pos rfl]
    exact linkError_busy busy

theorem linkPorts_open {p : Pins} {s : State} (h : (p.linkErr || !p.linkUp) = false) :
    linkPorts p s = { s with linkUp := true } := by
  obtain ⟨he, hl⟩ : p.linkErr = false ∧ p.linkUp = true := by simpa using h
  rw [linkPorts, he, hl]
  rfl

/-- The presentation taken down at an edge is no part of the exchange. -/
theorem Progress.whenPort_withdraw (b : Bool) {ends : Bool} {n : Nat} {s t : State}
    (h : Progress ends n s t) : Progress ends n s (whenPort b withdraw t) := by
  cases b
  · exact h
  · exact h.imp_right fun ⟨he, hu⟩ => ⟨he, hu.busy, hu.limit, hu.timer⟩

/-- Of the port events of an edge the first that can end the exchange does (R174). -/
theorem progress_clockEdge {p : Pins} {s : State} (hr : p.rst = false) (busy : s.phase ≠ .idle) :
    Progress (endsExchange s (.edge p)) p.tickMs.toNat s (clockEdge p s) := by
  rw [clockEdge_order hr, endsExchange, hr, Bool.false_or]
  refine Progress.whenPort_withdraw _ ?_
  cases hlink : p.linkErr || !p.linkUp with
  | true =>
    rw [linkPorts_fails busy hlink]
    have idle := rxPort_idle p.rxData (abort_phase .linkError { s with linkUp := p.linkUp })
    rw [txThenTick_idle p idle]
    exact .inl ⟨rfl, idle⟩
  | false =>
    rw [linkPorts_open hlink, Bool.false_or]
    rcases progress_rxPort p.rxData (s := { s with linkUp := true }) busy with
      ⟨hlast, idle⟩ | ⟨hlast, hu⟩
    · rw [txThenTick_idle p idle]
      exact .inl ⟨Bool.or_eq_true_iff.mpr (.inl hlast), idle⟩
    · have ticked := progress_txThenTick p hu.busy
      have more : (p.rxData.isSome && atLastByte s) = false := hlast
      have opened : Underway 0 s { s with linkUp := true } := ⟨busy, rfl, rfl⟩
      rw [hu.expiresNext, opened.expiresNext] at ticked
      rw [more, Bool.false_or]
      exact opened.then (hu.then ticked)

theorem moving_next_idx {f : State → State} {s t : State} (h : moving f s = .next t)
    (busy : s.phase ≠ .idle) : s.idx.toNat ≤ 8 := by
  unfold moving at h
  split at h
  · cases h
  next hbad => simpa [State.badOffset, State.busy, busy] using hbad

/-- Exactly the events of `endsExchange` end an exchange; in any other it goes on, and a tick counts
(R169, R175). -/
theorem runInput_progress {i : Input} {s t : State} (h : runInput i s = .next t)
    (busy : s.phase ≠ .idle) :
    ∃ n, ticks [i] ≤ n ∧ Progress (endsExchange s i) n s t := by
  have untouched {t : State} (hp : t.phase = s.phase) (hl : t.lLimit = s.lLimit)
      (ht : t.timer = s.timer) : Progress false 0 s t :=
    .inr ⟨rfl, hp ▸ busy, hl, congrArg BitVec.toNat ht⟩
  cases i with
  | present st => exact ⟨0, le_refl 0, Host.Outcome.next.inj h ▸ untouched rfl rfl rfl⟩
  | withdraw => exact ⟨0, le_refl 0, Host.Outcome.next.inj h ▸ untouched rfl rfl rfl⟩
  | write w =>
    exact ⟨0, le_refl 0, Host.Outcome.next.inj h ▸
      untouched (hostWrite_phase w s) (hostWrite_lLimit w s) (hostWrite_timer w s)⟩
  | linkTakes => exact ⟨0, le_refl 0, moving_next h ▸ (underway_txStep busy).progress⟩
  | rxByte b => exact ⟨0, le_refl 0, moving_next h ▸ progress_rxByte b busy⟩
  | rxTake => exact ⟨0, le_refl 0, moving_next h ▸ progress_rxTake busy⟩
  | rxFrame f =>
    rw [runInput_rxFrame] at h
    exact ⟨0, le_refl 0, moving_next h ▸ progress_rxFrame f busy (moving_next_idx h busy)⟩
  | tick => exact ⟨1, le_refl 1, Host.Outcome.next.inj h ▸ progress_tick busy⟩
  | linkErr =>
    have failed : linkError s = abort .linkError s := linkError_busy busy
    exact ⟨0, le_refl 0, Host.Outcome.next.inj h ▸ .inl ⟨rfl, failed ▸ rfl⟩⟩
  | linkOpen => exact ⟨0, le_refl 0, Host.Outcome.next.inj h ▸ untouched rfl rfl rfl⟩
  | linkClose =>
    have failed : linkClose s = abort .linkError { s with linkUp := false } := linkError_busy busy
    exact ⟨0, le_refl 0, Host.Outcome.next.inj h ▸ .inl ⟨rfl, failed ▸ rfl⟩⟩
  | rst => exact ⟨0, le_refl 0, Host.Outcome.next.inj h ▸ .inl ⟨rfl, rfl⟩⟩
  | edge p =>
    rw [runEdge_next h busy]
    cases hr : p.rst with
    | true =>
      have ends : endsExchange s (.edge p) = true := by simp [endsExchange, hr]
      exact ⟨0, le_refl 0, clockEdge_rst hr s ▸ .whenPort_withdraw _ (.inl ⟨ends, rfl⟩)⟩
    | false => exact ⟨p.tickMs.toNat, Nat.zero_le _, progress_clockEdge hr busy⟩

/-- Which events end an exchange does not depend on what waits at the ports. -/
theorem endsExchange_ports (i : Input) (s : State) (r : List Input) (n : Nat) :
    endsExchange { s with inputs := r, fresh := n } i = endsExchange s i := by
  cases i <;> rfl

/-- Settles O50: the step is one event, and each ends the exchange as its progress says. -/
theorem onlyExpiryErrorCompletionOrResetEndAnExchange :
    Obligations.OnlyExpiryErrorCompletionOrResetEndAnExchange := by
  intro s t h busy
  obtain ⟨i, r, n, he⟩ : ∃ i r n, nextEvent s = (.input i, { s with inputs := r, fresh := n }) := by
    rcases nextEvent_cases s with ⟨st, -, hp, -⟩ | ⟨i, rest, -, -, he⟩ | ⟨-, -, he⟩
    · exact absurd hp busy
    · exact ⟨i, rest, s.fresh, he⟩
    · exact ⟨_, s.inputs, s.fresh + 1, he⟩
  rw [step, he] at h
  obtain ⟨k, -, progress⟩ := runInput_progress h busy
  rw [progress.iff, endsExchange_ports, he]
  exact ⟨fun hends => ⟨i, rfl, hends⟩, fun ⟨_, hj, hends⟩ => Event.input.inj hj ▸ hends⟩

theorem ticks_cons (i : Input) (rest : List Input) :
    ticks (i :: rest) = ticks [i] + ticks rest := by
  cases i <;> simp [ticks, Nat.add_comm]

/-- Settles O51: each event ends the exchange or leaves it the ticks it has not used. -/
theorem exchangeEndsWithinItsTicks : Obligations.ExchangeEndsWithinItsTicks := by
  intro s legal busy budget
  induction hi : s.inputs generalizing s with
  | nil =>
    obtain ⟨-, -, -, left⟩ := legal.exchange busy
    rw [hi, ticks] at budget
    omega
  | cons i rest ih =>
    obtain ⟨t, ht⟩ := legalStatesNeverStop s legal
    have handled := (step_input (.inr busy) hi).symm.trans ht
    obtain ⟨n, hn, progress⟩ := runInput_progress handled busy
    have inputs : t.inputs = rest := (runInput_keepsPorts handled busy).1
    rcases progress with ⟨-, idle⟩ | ⟨-, hu⟩
    · exact ⟨1, t, by simp, run_succ (M := core) 0 ht, idle⟩
    · have left : t.lLimit.toNat - t.timer.toNat ≤ ticks t.inputs := by
        have limit : t.lLimit.toNat = s.lLimit.toNat := congrArg BitVec.toNat hu.limit
        have timer : t.timer.toNat = s.timer.toNat + n := hu.timer
        rw [hi, ticks_cons] at budget
        rw [inputs]
        omega
      obtain ⟨k, u, hk, hrun, idle⟩ :=
        ih t (everyStepKeepsTheInvariant s t legal ht) hu.busy left inputs
      exact ⟨k + 1, u, Nat.succ_le_succ (inputs ▸ hk), (run_succ (M := core) k ht).trans hrun, idle⟩

/-! ### Several events at one edge (R174) -/

/-- A byte at an edge outside RX reaches RXS and RXQ only (R173). -/
theorem rxPort_stale (d : Option Byte) {s : State} (hp : s.phase ≠ .rx) :
    ∃ rs q, rxPort d s = { s with rxs := rs, rxq := q } := by
  cases d with
  | none => exact ⟨s.rxs, s.rxq, rfl⟩
  | some b => exact rxByte_stale b hp

/-- After a link error the byte of the edge is stale, and nothing is left to transmit or to expire
(R173, R174). -/
theorem clockEdge_linkError {p : Pins} {s : State} (hr : p.rst = false) (busy : s.phase ≠ .idle)
    (hlink : (p.linkErr || !p.linkUp) = true) :
    ∃ rs q, clockEdge p s = whenPort (!p.opValid) withdraw
      { abort .linkError { s with linkUp := p.linkUp } with rxs := rs, rxq := q } := by
  rw [clockEdge_order hr, linkPorts_fails busy hlink]
  obtain ⟨rs, q, he⟩ :=
    rxPort_stale p.rxData (s := abort .linkError { s with linkUp := p.linkUp }) nofun
  exact ⟨rs, q, by rw [txThenTick_idle p (rxPort_idle _ (abort_phase _ _)), he]⟩

/-- The ninth byte at an edge completes the exchange, and no tick is left to end it (R174). -/
theorem clockEdge_ninthByte {p : Pins} {s : State} {b : Byte} (hr : p.rst = false)
    (hlink : (p.linkErr || !p.linkUp) = false) (hb : p.rxData = some b) (hp : s.phase = .rx)
    (hi : s.idx = 8) :
    clockEdge p s = whenPort (!p.opValid) withdraw (complete { s with
      linkUp := true, rxs := s.rxs ++ [b], rxq := (s.rxq ++ [b]).tail
      rxbuf := s.rxbuf.setByte 8 (s.rxq.headD b), phase := .idle, idx := 0 }) := by
  rw [clockEdge_order hr, linkPorts_open hlink, hb, rxPort, rxByte_last,
    txThenTick_idle p (complete_phase _)]
  · exact hp
  · exact hi

/-- The tick that uses the budget up is the last event of its edge (R174). -/
theorem txThenTick_expires {p : Pins} {s : State} (hm : p.tickMs = true) (busy : s.phase ≠ .idle)
    (h : expiresNext s = true) :
    ∃ u, txThenTick p s = abort .timeout u ∧ u.txs = (whenPort p.txReady txStep s).txs := by
  have sent := underway_txPort p.txReady busy
  have ends := tick_expires sent.busy (of_decide_eq_true (sent.expiresNext.trans h))
  have last : txThenTick p s = tick (whenPort p.txReady txStep s) := by
    rw [txThenTick, hm, whenPort_true]
  exact ⟨_, last.trans ends, rfl⟩

/-- Without the ninth byte the exchange expires at the edge, the byte of TX being put on TXS before
(R174). -/
theorem clockEdge_expires {p : Pins} {s : State} (hr : p.rst = false) (busy : s.phase ≠ .idle)
    (hlink : (p.linkErr || !p.linkUp) = false) (hlast : (p.rxData.isSome && atLastByte s) = false)
    (hm : p.tickMs = true) (h : expiresNext s = true) :
    ∃ u, clockEdge p s = whenPort (!p.opValid) withdraw (abort .timeout u) ∧
      ∀ b, s.phase = .tx → p.txReady = true → s.txbuf.byteAt s.idx.toNat = some b →
        u.txs = s.txs ++ [b] := by
  rcases progress_rxPort p.rxData (s := { s with linkUp := true }) busy with ⟨he, -⟩ | ⟨-, hu⟩
  · exact Bool.noConfusion (hlast.symm.trans he)
  obtain ⟨u, he, htxs⟩ := txThenTick_expires hm hu.busy (hu.expiresNext.trans h)
  refine ⟨u, by rw [clockEdge_order hr, linkPorts_open hlink, he], fun b hp ht hb => ?_⟩
  obtain ⟨rs, q, hrx⟩ := rxPort_stale p.rxData (s := { s with linkUp := true }) (by simp [hp])
  rw [htxs, hrx, ht, whenPort_true, txStep_byte]
  · exact hp
  · exact hb

/-- What a completed exchange reports (R172, R210). -/
theorem complete_report (s : State) :
    (complete s).rFrame = s.rxbuf ∧ (s.lOp ≠ 5 → (complete s).rClass = .none) ∧
    (s.lOp = 5 → s.rxbuf.valid = true →
      (complete s).rClass = .wire ∧ (complete s).rCode = s.rxbuf.b2.setWidth 16) ∧
    (s.lOp = 5 → s.rxbuf.valid = false →
      (complete s).rClass = .error ∧ (complete s).rArg = 4) := by
  rcases complete_cases s with ⟨hop, hv, he⟩ | ⟨hop, hv, he⟩ | ⟨hop, he⟩ <;> rw [he]
  · rw [endOp_wire]
    exact ⟨rfl, absurd hop, fun _ _ => ⟨rfl, rfl⟩, fun _ h => by simp [hv] at h⟩
  · exact ⟨rfl, absurd hop, fun _ h => by simp [hv] at h, fun _ _ => ⟨rfl, rfl⟩⟩
  · exact ⟨rfl, fun _ => rfl, fun h => absurd h hop, fun h => absurd h hop⟩

/-- Settles O25: the link error ends the exchange before the byte is looked at, the ninth byte ends
it before the tick, and a byte of TX is put before the tick ends it. -/
theorem edgeOrderIsLinkByteTick : Obligations.EdgeOrderIsLinkByteTick := by
  intro s rest tx rx err hi busy h8 hle
  obtain ⟨p, hpins⟩ : ∃ p : Pins, p = ⟨false, false, tx, rx, true, err, true⟩ := ⟨_, rfl⟩
  rw [← hpins] at hi
  have hr : p.rst = false := by rw [hpins]
  have hv : p.opValid = false := by rw [hpins]
  have hlink : (p.linkErr || !p.linkUp) = err := by simp [hpins]
  refine ⟨_, step_edge_busy busy h8 hi, ?_⟩
  cases err with
  | true =>
    obtain ⟨rs, q, he⟩ := clockEdge_linkError hr (s := { s with inputs := rest }) busy hlink
    rw [he, hv]
    exact ⟨rfl, rfl, fun _ => ⟨rfl, rfl, rfl, rfl⟩, nofun, nofun⟩
  | false =>
    by_cases hninth : ∃ b, rx = some b ∧ s.phase = .rx ∧ s.idx = 8
    · obtain ⟨b, rfl, hp, hidx⟩ := hninth
      rw [clockEdge_ninthByte hr (s := { s with inputs := rest }) hlink (by rw [hpins]) hp hidx, hv]
      obtain ⟨frame, execute, valid, invalid⟩ := complete_report { s with
        inputs := rest, linkUp := true, rxs := s.rxs ++ [b], rxq := (s.rxq ++ [b]).tail
        rxbuf := s.rxbuf.setByte 8 (s.rxq.headD b), phase := .idle, idx := 0 }
      refine ⟨complete_phase _, complete_done _, nofun, fun b' f _ _ _ hb hf => ?_,
        fun _ _ htx => by simp [hp] at htx⟩
      obtain rfl := Option.some.inj hb
      subst hf
      exact ⟨frame, fun hop => execute (by simp [hop]), valid, invalid⟩
    · have hlast : (p.rxData.isSome && atLastByte s) = false := by
        rw [hpins]
        cases rx with
        | none => rfl
        | some b => exact atLastByte_eq_false (not_and_or.mp fun h => hninth ⟨b, rfl, h⟩)
      obtain ⟨u, he, sent⟩ := clockEdge_expires hr (s := { s with inputs := rest }) busy hlink hlast
        (by rw [hpins]) (decide_eq_true hle)
      rw [he, hv]
      exact ⟨rfl, rfl, nofun, fun b _ _ hp hidx hb _ => absurd ⟨b, hb, hp, hidx⟩ hninth,
        fun b _ hp ht hb => ⟨sent b hp (by rw [hpins]; exact ht) hb, rfl, rfl⟩⟩

end Sys2Proof.Safety
end

section
/-! PROOFS. The statements of 42_client.md. BUILD and SEND have one rule per end (`buildOp_ok`,
`buildOp_error`, `sendOp_addrNotSet`, `sendOp_argRejects`, `sendOp_moveRejects`, `sendOp_ok`), and
what ending SEND writes is said once, for a valid response and for an invalid one
(`finishSend_eq`). -/

namespace Sys2Proof

/-- The kinds that return a value are 4, 6, 15 and 16 (R100, R214). -/
theorem isGetCode_iff :
    ∀ {code : BitVec 5}, isGetCode code = true ↔ code = 4 ∨ code = 6 ∨ code = 15 ∨ code = 16 := by
  decide

end Sys2Proof

namespace Sys2Proof.Machine

open Sys2Proof.Safety

/-! ### The frame of a kind (R202, R203) -/

/-- The frame of a move whose type is 0, 1 or 2 (R203). -/
def moveFrame (t : TemplateTable) (address mvt coord : Byte) (v : Word32) : Frame :=
  encodeFrame address t.mvp.cmd
    (if mvt = 0 then t.mvtAbs else if mvt = 1 then t.mvtRel else t.mvtCoord)
    (if mvt = 2 then coord else 0) v

theorem buildFrame_of_ne_mvp (t : TemplateTable) (address : Byte) {k : Kind} (mvt coord : Byte)
    (v : Word32) (hk : k ≠ .mvp) :
    buildFrame t address k mvt coord v =
      .ok (encodeFrame address (t.entry k).cmd (t.entry k).typ (t.entry k).mot v) := by
  cases k with
  | mvp => exact absurd rfl hk
  | _ => rfl

theorem buildFrame_move (t : TemplateTable) (address : Byte) {mvt : Byte} (coord : Byte)
    (v : Word32) (h : mvt.toNat ≤ 2) :
    buildFrame t address .mvp mvt coord v = .ok (moveFrame t address mvt coord v) := by
  have hmvt : mvt = 0 ∨ mvt = 1 ∨ mvt = 2 := by bv_omega
  rcases hmvt with rfl | rfl | rfl <;> rfl

theorem buildFrame_moveRejects (t : TemplateTable) (address : Byte) {mvt : Byte} (coord : Byte)
    (v : Word32) (h : 3 ≤ mvt.toNat) :
    buildFrame t address .mvp mvt coord v = .error .movementType := by
  have rejects : moveAdjust t mvt coord = .error .movementType := by
    unfold moveAdjust
    split
    case h_4 => rfl
    all_goals omega
  simp only [buildFrame, rejects]

/-! ### CFGADDR and BUILD (R200, R202) -/

/-- Settles O7: the three ends of CFGADDR, by the address state and then by the range. -/
theorem cfgaddrSetsTheAddressOnce : Obligations.CfgaddrSetsTheAddressOnce := by
  intro low s hp
  refine (whenIdle_idle hp cfgaddrOp).trans (congrArg _ ?_)
  rcases cfgaddrOp_cases s with ⟨hc, he⟩ | ⟨hc, hr, he⟩ | ⟨hc, h1, h255, he⟩ <;> rw [he]
  · rw [if_pos hc]
    rfl
  · rw [if_neg (by simp [hc]), if_pos (by omega)]
    rfl
  · rw [if_neg (by simp [hc]), if_neg (by omega), BitVec.setWidth_eq_extractLsb' (by decide)]
    rfl

/-- BUILD ends as the frame of the kind does, once the block has its address (R202). -/
theorem buildOp_ok {k : Kind} {f : Frame} {s : State} (hc : s.cfg = true)
    (hf : buildFrame s.tpl s.devaddr k s.aMvt s.aCoord s.aValue = .ok f) :
    buildOp k.code s = endOp .none { latchKind 3 k.code s with rFrame := f } := by
  simp only [buildOp, Kind.ofCode_code, hc, hf]
  rfl

theorem buildOp_error {k : Kind} {a : LocalArg} {s : State} (hc : s.cfg = true)
    (hf : buildFrame s.tpl s.devaddr k s.aMvt s.aCoord s.aValue = .error a) :
    buildOp k.code s = endOp (.locl a) (latchKind 3 k.code s) := by
  simp only [buildOp, Kind.ofCode_code, hc, hf]
  rfl

/-- Settles O8: every kind but the move has the frame of its template entry. -/
theorem buildMakesTheCommandFrame : Obligations.BuildMakesTheCommandFrame := by
  intro k s hp hc hk
  refine (whenIdle_idle hp (buildOp k.code)).trans (congrArg _ ?_)
  rw [buildOp_ok hc (buildFrame_of_ne_mvp _ _ _ _ _ hk)]
  rfl

/-- Settles O9: a movement type has a frame up to 2 and none above. -/
theorem buildOfAMoveFollowsItsType : Obligations.BuildOfAMoveFollowsItsType := by
  intro s hp hc
  refine (whenIdle_idle hp (buildOp 3)).trans (congrArg _ ?_)
  by_cases h : 3 ≤ s.aMvt.toNat
  · rw [if_pos h]
    exact buildOp_error (k := .mvp) hc (buildFrame_moveRejects _ _ _ _ h)
  · rw [if_neg h]
    exact buildOp_ok (k := .mvp) hc (buildFrame_move _ _ _ _ (by omega))

/-! ### The start of SEND (R204, R210) -/

theorem exec_sendInstr_idle (k : Kind) {s : State} (hp : s.phase = .idle) :
    exec (sendInstr k) s = .next (sendOp k.code s) := by
  rw [exec_sendInstr, whenIdle_idle hp]

theorem sendOp_addrNotSet (k : Kind) {s : State} (hc : s.cfg = false) :
    sendOp k.code s = endOp (.locl .addrNotSet) (latchSend k.code s) := by
  simp only [sendOp, Kind.ofCode_code, hc]
  rfl

theorem sendOp_argRejects {k : Kind} {a : LocalArg} {s : State} (hc : s.cfg = true)
    (hv : validate k s.aValue = some a) :
    sendOp k.code s = endOp (.locl a) (latchSend k.code s) := by
  simp only [sendOp, Kind.ofCode_code, hc, hv]
  rfl

theorem sendOp_moveRejects {s : State} (hc : s.cfg = true) (h : 3 ≤ s.aMvt.toNat) :
    sendOp Kind.mvp.code s = endOp (.locl .movementType) (latchSend Kind.mvp.code s) := by
  simp only [sendOp, Kind.ofCode_code, hc, validate, buildFrame_moveRejects _ _ _ _ h]
  rfl

/-- SEND past its local checks, with link and budget (R165, R210). -/
theorem sendOp_ok {k : Kind} {f : Frame} {s : State} (hc : s.cfg = true) (hl : s.linkUp = true)
    (ht : s.aTimeout ≠ 0) (ha : argumentsLegal k s)
    (hf : buildFrame s.tpl s.devaddr k s.aMvt s.aCoord s.aValue = .ok f) :
    sendOp k.code s =
      { s with
        lOp := 5, lKind := k.code, lLimit := s.aTimeout, txbuf := f, timer := 0, phase := .tx
        idx := 0, done := false } := by
  have starts : sendOp k.code s = startExchange f (latchSend k.code s) := by
    simp only [sendOp, Kind.ofCode_code, hc, validate_eq_none ha, hf]
    rfl
  exact starts.trans (startExchange_starts f (s := latchSend k.code s) hl ht)

/-- Settles O11: SEND of a kind with its operand in range starts the exchange of its frame. -/
theorem sendStartsAnExchange : Obligations.SendStartsAnExchange := by
  intro k s hp hc hl ht hk velocity resolution
  have legal : argumentsLegal k s := ⟨velocity, resolution, fun h => absurd h hk⟩
  rw [exec_sendInstr_idle k hp, sendOp_ok hc hl ht legal (buildFrame_of_ne_mvp _ _ _ _ _ hk)]

/-- Settles O12: SEND of a move with a type up to 2 starts the exchange of its frame. -/
theorem sendOfAMoveStartsAnExchange : Obligations.SendOfAMoveStartsAnExchange := by
  intro s hp hc hl ht hm
  have legal : argumentsLegal .mvp s := ⟨nofun, nofun, fun _ => hm⟩
  exact (exec_sendInstr_idle .mvp hp).trans
    (congrArg _ (sendOp_ok hc hl ht legal (buildFrame_move _ _ _ _ hm)))

/-- A velocity out of range is rejected, and so is a resolution (R204). -/
theorem validate_velocity {k : Kind} {v : Word32} (hk : k = .ror ∨ k = .rol)
    (hv : v.toInt < -2049 ∨ 2049 < v.toInt) : validate k v = some .velocity := by
  have outside : ¬ (velMin ≤ s32 v ∧ s32 v ≤ velMax) := by
    simp only [velMin, velMax, s32]
    omega
  rcases hk with rfl | rfl <;> exact if_neg outside

theorem validate_resolution {v : Word32} (hv : v.toInt < 1 ∨ 8 < v.toInt) :
    validate .smres v = some .resolution := by
  refine if_neg ?_
  simp only [resMin, resMax, s32]
  omega

/-- Settles O13: the value is checked for velocities and resolutions, the type for a move. -/
theorem sendRejectsOutOfRangeArguments : Obligations.SendRejectsOutOfRangeArguments := by
  intro k arg s hp hc h
  rw [exec_sendInstr_idle k hp]
  rcases h with ⟨hk, hv, rfl⟩ | ⟨rfl, hv, rfl⟩ | ⟨rfl, hm, rfl⟩
  · rw [sendOp_argRejects hc (validate_velocity hk hv)]
    rfl
  · rw [sendOp_argRejects hc (validate_resolution hv)]
    rfl
  · rw [sendOp_moveRejects hc hm]
    rfl

/-- Settles O14: the address state is looked at before the value and the link. -/
theorem sendNeedsTheAddress : Obligations.SendNeedsTheAddress := by
  intro k s hp hc
  rw [exec_sendInstr_idle k hp, sendOp_addrNotSet k hc]
  rfl

/-! ### The end of SEND (R210, R214) -/

/-- The response is decoded; its status and, for a get kind, its value come up if its checksum is
right, and no field of it otherwise (R144, R210, R214). -/
theorem finishSend_eq (s : State) :
    finishSend s =
      let get := s.rxbuf.valid = true ∧
        (s.lKind = 4 ∨ s.lKind = 6 ∨ s.lKind = 15 ∨ s.lKind = 16)
      { s with
        rFrame := s.rxbuf, dAddress := s.rxbuf.b0, dModule := s.rxbuf.b1, dStatus := s.rxbuf.b2
        dCmd := s.rxbuf.b3, dValue := s.rxbuf.value, dValid := s.rxbuf.valid
        rClass := if s.rxbuf.valid = true then .wire else .error
        rCode := if s.rxbuf.valid = true then s.rxbuf.b2.setWidth 16 else Config.errorCode
        rArg := if s.rxbuf.valid = true then 0 else 4
        rHasvalue := decide get, rValue := if get then s.rxbuf.value else s.rValue
        phase := .idle, idx := 0, done := true } := by
  by_cases hv : s.rxbuf.valid = true
  · by_cases hk : s.lKind = 4 ∨ s.lKind = 6 ∨ s.lKind = 15 ∨ s.lKind = 16
    · have get : isGetCode s.lKind = true := isGetCode_iff.mpr hk
      simp only [finishSend, hv, hk, get, endOp_wire, writeDecode]
      rfl
    · have get : isGetCode s.lKind = false := by simpa using mt isGetCode_iff.mp hk
      simp only [finishSend, hv, hk, get, endOp_wire, writeDecode]
      rfl
  · simp [finishSend, hv, endOp_checksum, writeDecode]

theorem complete_send {s : State} (h : s.lOp = 5) : complete s = finishSend s := if_pos h

/-- Settles O21: the byte at hand is stored at offset 8, and SEND ends on the nine bytes. -/
theorem ninthByteCompletesSend : Obligations.NinthByteCompletesSend := by
  intro s rest f rxs rxq hp h8 hop h
  have busy : s.phase ≠ .idle := by simp [hp]
  have hle : s.idx.toNat ≤ 8 := by simp [h8]
  rcases h with ⟨b, hi, rfl, rfl, rfl⟩ | ⟨b, hi, hq, rfl, rfl⟩ <;>
    rw [step_moving hi (fun _ => rfl) (.inr busy) hle]
  · rw [rxByte_last, complete_send, finishSend_eq]
    · exact hop
    · exact hp
    · exact h8
  · rw [rxTake_cons, storeRx_last, complete_send, finishSend_eq]
    · exact hop
    · exact h8
    · exact hp
    · exact hq

/-- Settles O32: SEND ends on the nine bytes that fill RXBUF. -/
theorem responseFrameCompletesSend : Obligations.ResponseFrameCompletesSend := by
  intro i f g s hi hf hp hidx hop hg
  rw [exec_of_port_rsp hi hf, readFrame_ok f (by simp [hidx]), rxBytes_frame f hp hidx hg,
    complete_send, finishSend_eq]
  exact hop

/-- Settles O34: of the response the result registers take validity, status and value alone. -/
theorem echoFieldsAreNotChecked : Obligations.EchoFieldsAreNotChecked := by
  rintro f g s h _ _ rfl rfl
  rw [finishSend_eq, finishSend_eq]
  rcases h with ⟨hf, hg, hstatus, hvalue⟩ | ⟨hf, hg⟩
  · simp only [hf, hg, hstatus, hvalue, and_self]
  · simp [hf, hg]

/-! ### The motor selector (R232) -/

theorem System.select_outOfRange {s : System} {m : Nat} (h : s.motors.length ≤ m)
    (f : Motor → Host.Outcome Motor Fault Refusal) :
    s.select m f = .next { s with selOut := some .motorIndex } :=
  if_neg (Nat.not_lt.mpr h)

theorem System.select_inRange {s : System} {m : Nat} (h : m < s.motors.length)
    (f : Motor → Host.Outcome Motor Fault Refusal) :
    s.select m f = System.onMotor { s with selOut := none } m f :=
  if_pos h

theorem System.onMotor_outOfRange {s : System} {m : Nat} (h : s.motors.length ≤ m)
    (f : Motor → Host.Outcome Motor Fault Refusal) : s.onMotor m f = .next s := by
  simp only [System.onMotor, List.getElem?_eq_none h]

theorem System.onMotor_next {s : System} {m : Nat} {x y : Motor} (hx : s.motors[m]? = some x)
    {f : Motor → Host.Outcome Motor Fault Refusal} (hf : f x = .next y) :
    s.onMotor m f = .next { s with motors := s.motors.set m y } := by
  simp only [System.onMotor, hx, hf]

/-- Settles O55: out of range the selector alone answers, in range the motor alone changes. -/
theorem selectorRejectsUnknownMotors : Obligations.SelectorRejectsUnknownMotors := by
  refine fun s m => ⟨fun e h he => ?operation, fun e h he => ?event, fun st x hx => ?inRange⟩
  case operation =>
    rcases he with ⟨st, rfl⟩ | ⟨op, t, rfl⟩ <;> exact System.select_outOfRange h _
  case event =>
    rcases he with rfl | ⟨i, rfl⟩ | rfl <;> rw [System.step, System.onMotor_outOfRange h]
  case inRange =>
    have hm : m < s.motors.length := (List.getElem?_eq_some_iff.mp hx).1
    exact (System.select_inRange hm _).trans
      (System.onMotor_next (s := { s with selOut := none }) hx rfl)

end Sys2Proof.Machine
end

section
/-! PROOFS. The statements of 43_motion_host.md. A host operation has one rule per action of
the host (`Motor.host_issue`, `Motor.host_finish`, `Motor.host_overflow`), a poll of an ended SEND one
rule (`Motor.poll_ended`); which action it is, the equations of `hostBegin` and `hostResume` say. -/

namespace Sys2Proof.Machine

/-! ### The actions of the host on its motor (R262 to R266, R345) -/

section
variable {steps : Int} {op : HostOp} {timeout : Word32} {m : Motor}

theorem Motor.host_issue {cmd : SendCmd} {bias : Int} {job : Job} (hj : m.job = none)
    (hb : hostBegin steps m.dir m.bias op = .issue cmd bias job) :
    Motor.host steps op timeout m = .next { m with
      vcf := { m.vcf with aTimeout := timeout }.issueSend cmd
      bias := bias, job := some job, ret := none } := by
  simp only [Motor.host, hj, hb]
  rfl

theorem Motor.host_finish {r : HostReturn} {bias : Int} (hj : m.job = none)
    (hb : hostBegin steps m.dir m.bias op = .finish r bias) :
    Motor.host steps op timeout m = .next { m with bias := bias, ret := some r } := by
  simp only [Motor.host, hj, hb, Motor.act]

theorem Motor.host_overflow (hj : m.job = none)
    (hb : hostBegin steps m.dir m.bias op = .overflow) :
    Motor.host steps op timeout m = .refused .positionOverflow := by
  simp only [Motor.host, hj, hb]
  rfl

theorem Motor.poll_ended {job : Job} (he : m.ended = true) (hj : m.job = some job) :
    m.poll steps = m.act (hostResume steps m.bias m.vcf.report m.vcf.rValue job) := by
  simp only [Motor.poll, hj, he]
  rfl

end

/-! ### The commands of rotate and of the moves (R264 to R266) -/

theorem rotateCmd_error {dir : Dir} {v : Int} (h : v < -2049 ∨ 2049 < v) :
    rotateCmd dir v = .error .velocity := if_pos h

/-- The table of R264 in one row: direction and sign choose the command, the direction alone the sign
of the bias (left with a negative velocity is D28). -/
theorem rotateCmd_ok {dir : Dir} {v : Int} (h : ¬ (v < -2049 ∨ 2049 < v)) :
    rotateCmd dir v =
      .ok (⟨if (dir = .right ∧ 0 ≤ v) ∨ (dir = .left ∧ v < 0) then .ror else .rol, none, u32 |v|⟩,
        if dir = .right then v else -v) := by
  refine (if_neg h).trans ?_
  by_cases hv : 0 ≤ v
  · cases dir <;> simp [hv, abs_of_nonneg hv]
  · have neg : v < 0 := Int.not_le.mp hv
    cases dir <;> simp [neg, hv, abs_of_neg neg]

theorem angleOk_iff {angle : Int} : angleOk angle = true ↔ ¬ (angle < -360 ∨ 360 < angle) := by
  rw [angleOk, decide_eq_true_iff]
  omega

theorem positionOk_iff {p : Int} :
    positionOk p = true ↔ ¬ (p < -2147483648 ∨ 2147483647 < p) := by
  rw [positionOk, decide_eq_true_iff]
  omega

theorem moveCmd_overflow (mvt : Byte) {p : Int} (bias : Int) (job : Job)
    (h : p < -2147483648 ∨ 2147483647 < p) : moveCmd mvt p bias job = .overflow :=
  if_neg fun ok => positionOk_iff.mp ok h

theorem moveCmd_issue (mvt : Byte) {p : Int} (bias : Int) (job : Job)
    (h : ¬ (p < -2147483648 ∨ 2147483647 < p)) :
    moveCmd mvt p bias job = .issue ⟨.mvp, some mvt, u32 p⟩ bias job :=
  if_pos (positionOk_iff.mpr h)

theorem hostBegin_rotate_rejected (steps : Int) (dir : Dir) (bias : Int) {v : Int}
    (h : v < -2049 ∨ 2049 < v) :
    hostBegin steps dir bias (.rotate v) = .finish (.rejected .velocity) bias := by
  simp only [hostBegin, rotateCmd_error h]

theorem hostBegin_rotate (steps : Int) (dir : Dir) (bias : Int) {v : Int}
    (h : ¬ (v < -2049 ∨ 2049 < v)) :
    hostBegin steps dir bias (.rotate v) =
      .issue
        ⟨if (dir = .right ∧ 0 ≤ v) ∨ (dir = .left ∧ v < 0) then .ror else .rol, none, u32 |v|⟩
        (if dir = .right then v else -v) .rotate := by
  simp only [hostBegin, rotateCmd_ok h]

/-- stop and reset_position both begin with the stop command (R262, R263). -/
theorem hostBegin_stop (steps : Int) (dir : Dir) (bias : Int) {op : HostOp} {job : Job}
    (h : op = .stop ∧ job = .stop ∨ op = .resetPosition ∧ job = .resetStop) :
    hostBegin steps dir bias op = .issue ⟨.mst, none, 0⟩ bias job := by
  rcases h with ⟨rfl, rfl⟩ | ⟨rfl, rfl⟩ <;> rfl

/-- Both moves reject an angle out of range before they issue anything (R265, R266). -/
theorem hostBegin_move_rejected (steps : Int) (dir : Dir) (bias : Int) {op : HostOp} {angle : Int}
    (hop : op = .moveByAngle angle ∨ op = .moveToAngle angle) (h : angle < -360 ∨ 360 < angle) :
    hostBegin steps dir bias op = .finish (.rejected .angle) bias := by
  rcases hop with rfl | rfl <;> exact if_neg fun ok => angleOk_iff.mp ok h

theorem hostBegin_moveByAngle (steps : Int) (dir : Dir) (bias : Int) {angle : Int}
    (h : ¬ (angle < -360 ∨ 360 < angle)) :
    hostBegin steps dir bias (.moveByAngle angle) =
      moveCmd 1 (Int.tdiv (angle * steps) 360) bias .moveBy :=
  if_pos (angleOk_iff.mpr h)

theorem hostBegin_moveToAngle (steps : Int) (dir : Dir) (bias : Int) {angle : Int}
    (h : ¬ (angle < -360 ∨ 360 < angle)) :
    hostBegin steps dir bias (.moveToAngle angle) =
      .issue ⟨.gapos, none, 0⟩ bias (.moveRead angle) :=
  if_pos (angleOk_iff.mpr h)

/-- Settles O57: each operation is rejected by its range, or issues its command. -/
theorem hostOperationsIssueTheirFirstCommand : Obligations.HostOperationsIssueTheirFirstCommand := by
  intro steps timeout m hj
  refine ⟨fun v => ?rotate, fun angle => ?moveByAngle, fun angle => ?moveToAngle,
    fun op job h => ?stop⟩
  case rotate =>
    by_cases h : v < -2049 ∨ 2049 < v
    · rw [if_pos h, Motor.host_finish hj (hostBegin_rotate_rejected _ _ _ h)]
    · rw [if_neg h, Motor.host_issue hj (hostBegin_rotate _ _ _ h), State.issueSend,
        apply_ite Kind.code]
      rfl
  case moveByAngle =>
    by_cases h : angle < -360 ∨ 360 < angle
    · rw [if_pos h, Motor.host_finish hj (hostBegin_move_rejected _ _ _ (.inl rfl) h)]
    rw [if_neg h]
    have begins := hostBegin_moveByAngle steps m.dir m.bias h
    by_cases out : Int.tdiv (angle * steps) 360 < -2147483648 ∨
        2147483647 < Int.tdiv (angle * steps) 360
    · rw [if_pos out]
      exact Motor.host_overflow hj (begins.trans (moveCmd_overflow _ _ _ out))
    · rw [if_neg out]
      exact Motor.host_issue hj (begins.trans (moveCmd_issue _ _ _ out))
  case moveToAngle =>
    by_cases h : angle < -360 ∨ 360 < angle
    · rw [if_pos h, Motor.host_finish hj (hostBegin_move_rejected _ _ _ (.inr rfl) h)]
    · rw [if_neg h]
      exact Motor.host_issue hj (hostBegin_moveToAngle _ _ _ h)
  case stop =>
    exact Motor.host_issue hj (hostBegin_stop _ _ _ h)

/-! ### The end of a SEND (R262 to R266) -/

/-- Settles O59: what each job does with the report of its SEND. -/
theorem stopAndResetPositionClearTheBias : Obligations.StopAndResetPositionClearTheBias := by
  refine fun _ _ he => ⟨Motor.poll_ended he, Motor.poll_ended he,
    fun _ => Motor.poll_ended he, fun _ h hj => ?_⟩
  rcases h with rfl | rfl | rfl <;> exact Motor.poll_ended he hj

theorem hostResume_read_failed (steps bias angle : Int) {r : Report} (value : Word32)
    (h : r ≠ .wire 100) :
    hostResume steps bias r value (.moveRead angle) = .finish (.one r) bias :=
  if_neg h

theorem hostResume_read (steps bias angle : Int) {r : Report} (value : Word32)
    (h : r = .wire 100) :
    hostResume steps bias r value (.moveRead angle) =
      moveCmd 0 (moveTarget steps bias value.toInt angle) bias .moveAbs :=
  if_pos h

/-- Settles O60: the read's report decides whether there is a move, the target whether it is sent. -/
theorem moveToAngleStopsOnAFailedRead : Obligations.MoveToAngleStopsOnAFailedRead := by
  intro steps angle m he hj
  refine ⟨fun failed => ?failed, fun ok target ht => ?read⟩
  case failed =>
    rw [Motor.poll_ended he hj, hostResume_read_failed _ _ _ _ failed]
    rfl
  case read =>
    rw [Motor.poll_ended he hj, hostResume_read _ _ _ _ ok, ← ht]
    by_cases out : target < -2147483648 ∨ 2147483647 < target
    · rw [if_pos out, moveCmd_overflow _ _ _ out]
      rfl
    · rw [if_neg out, moveCmd_issue _ _ _ out]
      rfl

/-! ### The target of move_to_angle (R266, R268) -/

theorem tmod_eq (a b : Int) : tmod a b = Int.tmod a b := (Int.tmod_def a b).symm

/-- At an angle that is not negative the target differs from the current position by the way to the
desired step, and where that way is against the bias by a whole rotation along the bias. -/
theorem moveTarget_sub_current (steps bias current : Int) {angle : Int} (h : 0 ≤ angle) :
    moveTarget steps bias current angle - current =
      Int.tdiv (angle * steps) 360 - Int.tmod current steps +
        if 0 ≤ bias then if Int.tdiv (angle * steps) 360 < Int.tmod current steps then steps else 0
        else if Int.tmod current steps < Int.tdiv (angle * steps) 360 then -steps else 0 := by
  simp only [moveTarget, tdiv, tmod_eq, if_neg (Int.not_lt.mpr h), decide_eq_true_iff]
  split <;> split <;> omega

/-- Settles O58: the whole rotation added is longer than the way against the bias. -/
theorem moveToAngleKeepsItsDirection : Obligations.MoveToAngleKeepsItsDirection := by
  intro steps bias current angle hsteps hangle _
  have way := moveTarget_sub_current steps bias current hangle
  refine ⟨fun hbias behind => ?forward, fun hbias ahead near => ?backward⟩
  case forward =>
    have desired : 0 ≤ Int.tdiv (angle * steps) 360 :=
      Int.tdiv_nonneg (Int.mul_nonneg hangle hsteps.le) (by decide)
    have rotation : Int.tmod current steps < steps := Int.tmod_lt_of_pos current hsteps
    rw [if_pos hbias, if_pos behind] at way
    omega
  case backward =>
    rw [if_neg (Int.not_le.mpr hbias), if_pos ahead] at way
    omega

end Sys2Proof.Machine
end

section
/-! PROOFS. The statements of 60_exceptions.md. An operation that ends as Local has written its
latches and its result and nothing else (`operation_endsLocally`); an event of the system sets the
motor at its own index and no other (`System.onMotor_keepsOthers`, `System.select_keepsOthers`). -/

namespace Sys2Proof.Machine

/-! ### Local validation errors (R301, R311) -/

/-- An exchange that starts is not DONE, one that does not start ends as Error (R165). -/
theorem startExchange_notLocal (c : Frame) {s : State} (hs : s.done = false)
    (hd : (startExchange c s).done = true) : (startExchange c s).rClass ≠ .locl := by
  rcases startExchange_cases c s with ⟨-, he⟩ | ⟨-, -, he⟩ | ⟨-, -, he⟩ <;> rw [he] at hd ⊢
  · exact nofun
  · exact nofun
  · cases hs.symm.trans hd

/-- Before an operation ends as Local it has latched its operands, and that is all (R301, R312). -/
theorem operation_endsLocally {op : BitVec 3} {kind : BitVec 5} {s : State}
    (hd : (operation op kind s).done = true) (hc : (operation op kind s).rClass = .locl) :
    ∃ a lop lkind limit,
      operation op kind s =
        endOp (.locl a) { s with lOp := lop, lKind := lkind, lLimit := limit } := by
  rcases operation_cases op kind with he | he | he | he | he | he | ⟨code, he⟩ <;>
    rw [he] at hd hc ⊢
  · -- CFGADDR
    rcases cfgaddrOp_cases s with ⟨-, he⟩ | ⟨-, -, he⟩ | ⟨-, -, -, he⟩ <;> rw [he] at hc ⊢
    · exact ⟨_, _, _, _, rfl⟩
    · exact ⟨_, _, _, _, rfl⟩
    · cases hc
  · -- ENCODE
    cases hc
  · -- DECODE
    cases hc
  · -- BUILD
    rcases buildOp_cases kind s with ⟨a, he⟩ | ⟨k, f, -, -, -, he⟩ <;> rw [he] at hc ⊢
    · exact ⟨_, _, _, _, rfl⟩
    · cases hc
  · -- EXECUTE
    exact absurd hc (startExchange_notLocal _ rfl hd)
  · -- SEND
    rcases sendOp_cases kind s with ⟨a, he⟩ | ⟨k, f, -, -, -, -, he⟩ <;> rw [he] at hd hc ⊢
    · exact ⟨_, _, _, _, rfl⟩
    · exact absurd hc (startExchange_notLocal _ rfl hd)
  · -- reserved
    exact ⟨_, _, _, _, rfl⟩

/-- Settles O52: what ends as Local has written latches and result registers only. -/
theorem localErrorsTouchNoLink : Obligations.LocalErrorsTouchNoLink := by
  intro i s t hport h hd hc
  obtain ⟨op, kind, hexec⟩ := exec_of_port_op hport
  obtain ⟨-, rfl⟩ := whenIdle_next ((hexec s).symm.trans h)
  obtain ⟨a, lop, lkind, limit, he⟩ := operation_endsLocally hd hc
  rw [he, endOp_locl]
  exact ⟨rfl, rfl, rfl, rfl, rfl, rfl, rfl⟩

/-! ### Instances share nothing (R72, R318) -/

section
variable {s t : System} {m j : Nat} {f : Motor → Host.Outcome Motor Fault Refusal}

theorem System.onMotor_keepsOthers (h : s.onMotor m f = .next t) (hj : j ≠ m) :
    t.motors[j]? = s.motors[j]? ∧ t.motors.length = s.motors.length := by
  unfold System.onMotor at h
  split at h
  case h_1 => -- no such motor
    cases h
    exact ⟨rfl, rfl⟩
  case h_2 =>
    split at h <;> cases h
    exact ⟨List.getElem?_set_ne hj.symm, List.length_set⟩

theorem System.select_keepsOthers (h : s.select m f = .next t) (hj : j ≠ m) :
    t.motors[j]? = s.motors[j]? ∧ t.motors.length = s.motors.length := by
  rcases Nat.lt_or_ge m s.motors.length with hm | hm
  · rw [System.select_inRange hm] at h
    exact System.onMotor_keepsOthers (s := { s with selOut := none }) h hj
  · cases (System.select_outOfRange hm f).symm.trans h
    exact ⟨rfl, rfl⟩

end

/-- Settles O56: every event of motor `m` goes through `onMotor` or `select` at `m`. -/
theorem instancesShareNothing : Obligations.InstancesShareNothing := by
  intro s t m j e h hj he
  rcases he with rfl | ⟨i, rfl⟩ | ⟨st, rfl⟩ | ⟨op, w, rfl⟩ | rfl <;> rw [System.step] at h
  · exact System.onMotor_keepsOthers h hj
  · exact System.onMotor_keepsOthers h hj
  · exact System.select_keepsOthers h hj
  · exact System.select_keepsOthers h hj
  · exact System.onMotor_keepsOthers h hj

end Sys2Proof.Machine
end

section
/-! PROOFS. The statements of 70_reset_and_hazards.md. The event `rst` is `resetBlock` in every
phase: the registers take their reset values, TPL and the ports stay. -/

namespace Sys2Proof.Machine

/-- Where no start is accepted, a waiting `rst` runs and nothing else does (R340, R341). -/
theorem step_rst {s : State} {rest : List Input} (hstart : s.pend = none ∨ s.phase ≠ .idle)
    (hrst : s.inputs = .rst :: rest) : step s = .next (resetBlock { s with inputs := rest }) :=
  step_input hstart hrst

/-- Settles O43: the registers of the next state are those of reset, which are the spec's values. -/
theorem resetDropsTheExchange : Obligations.ResetDropsTheExchange := by
  intro s rest hstart hrst
  obtain ⟨hphase, hidx, htimer, hcfg, hdone, hvalue, hrxq, htxs, -⟩ := resetValuesOfTheSpec
  exact ⟨_, step_rst hstart hrst, hphase, hidx, htimer, hcfg, hdone, hvalue, hrxq, htxs,
    rfl, rfl, rfl, rfl⟩

end Sys2Proof.Machine
end
